-- ==== Sys2Proof/Word.lean ====
section
/-! DEFINITION. The word types of the block: every value of the spec is an unsigned bit vector of stated width (R9). -/

namespace Sys2Proof

/-- An 8-bit value: a frame byte or a FEED operand (R47). -/
abbrev Byte := BitVec 8

/-- A 16-bit value: CRC, EXPECT and the entries of TABLE (R20, R21, R27); CRC_WIDTH of R8. -/
abbrev Half := BitVec 16

/-- A 32-bit command or response word (R60, R61). -/
abbrev Word := BitVec 32

/-- The 9-bit value of COUNT (R22); COUNT_WIDTH of R8. -/
abbrev Count := BitVec 9

end Sys2Proof
end

