-- ==== Sys2Proof/Syntax.lean ====
section
/-! DEFINITION. The commands of the block (one constructor per row of the opcode table) and the lines of its assembler. -/

namespace Sys2Proof

/-- The eight commands of the opcode map (R67). An operand's width is its type, so it holds every value the
encoding admits and no other (R64, R65, R66). VALIDATE's frame is no field of the word (R120). -/
inductive Instr where
  | nop
  | init
  | feed (byte : Byte)
  | loadexp (half : Half)
  | check
  | readcrc
  | readstatus
  | validate
deriving DecidableEq, Repr

/-- The mnemonic of R67, as the opcode table spells it. -/
def Instr.mnemonic : Instr → String
  | .nop => "NOP"
  | .init => "INIT"
  | .feed _ => "FEED"
  | .loadexp _ => "LOADEXP"
  | .check => "CHECK"
  | .readcrc => "READCRC"
  | .readstatus => "READSTATUS"
  | .validate => "VALIDATE"

/-- One line of the assembler (R71) or one pseudo-instruction (R72). Operands are the numbers as written, of any
size: the range check is `AsmLine.wf`. -/
inductive AsmLine where
  | nop
  | init
  | feed (imm8 : Nat)
  | loadexp (imm16 : Nat)
  | check
  | readcrc
  | readstatus
  | validate
  /-- `.word imm32`: emits the word as given (R71). -/
  | word (imm32 : Nat)
  /-- `FEEDS b0, ..., bn-1` (R72). -/
  | feeds (imms : List Nat)
  /-- `FEEDZ n` (R72, which gives `n` no range: any is taken, DESIGN CHOICE, log entry 13). -/
  | feedz (n : Nat)
  /-- `VERIFY imm16` (R72). -/
  | verify (imm16 : Nat)
deriving DecidableEq, Repr

end Sys2Proof
end

