-- ==== Sys2Proof/WellFormed.lean ====
section
/-! DEFINITION. The checks on commands and on assembler lines. -/

namespace Sys2Proof

/-- The check on a command. BYTE and HALF are unsigned values of exactly the field's width (R64 to R66) and no other
format has an operand (R63), so the widths of the types are the whole check and no command fails it. -/
def Instr.wf : Instr → Bool
  | .nop => true
  | .init => true
  | .feed _ => true
  | .loadexp _ => true
  | .check => true
  | .readcrc => true
  | .readstatus => true
  | .validate => true

/-- The range check of an `imm8` (R71: 0 to 255). -/
def imm8InRange (n : Nat) : Bool := decide (n ≤ 255)

/-- The range check of an `imm16` (R71: 0 to 65535). -/
def imm16InRange (n : Nat) : Bool := decide (n ≤ 65535)

/-- The range check of the 32-bit word of `.word`: the values that are a 32-bit word (R71; DEDUCED, log entry 13). -/
def imm32InRange (n : Nat) : Bool := decide (n < 2 ^ 32)

/-- The check on an assembler line: "an assembler refuses a value out of range rather than truncating it" (R71).
FEEDS has at least one operand, and FEEDZ takes any number: DESIGN CHOICES, log entry 13. -/
def AsmLine.wf : AsmLine → Bool
  | .nop => true
  | .init => true
  | .feed n => imm8InRange n
  | .loadexp n => imm16InRange n
  | .check => true
  | .readcrc => true
  | .readstatus => true
  | .validate => true
  | .word n => imm32InRange n
  | .feeds ns => !ns.isEmpty && ns.all imm8InRange
  | .feedz _ => true
  | .verify n => imm16InRange n

end Sys2Proof
end

