-- ==== Sys2Proof/Decode.lean ====
section
/-! DEFINITION. The command decoder, total on every 32-bit word, the encoder beside it, and the opcode map of R67. -/

namespace Sys2Proof

/-- Why a command word is illegal (R68). -/
inductive IllegalWord where
  /-- (a) OP is in `0x08 .. 0xFF`. -/
  | unassignedOpcode
  /-- (b) OP is legal and a must-be-zero bit is set. -/
  | mustBeZeroBitSet
deriving DecidableEq, Repr

/-- `OP = w[31:24]` (R60). -/
def opField (w : Word) : Byte := w.extractLsb' 24 8

/-- `ARG = w[23:0]` (R60). -/
def argField (w : Word) : BitVec 24 := w.extractLsb' 0 24

/-- The BYTE field of format B, `w[7:0]` (R64). -/
def byteField (w : Word) : Byte := w.extractLsb' 0 8

/-- The HALF field of format H, `w[15:0]` (R65). -/
def halfField (w : Word) : Half := w.extractLsb' 0 16

/-- Format N: `w[23:0]` must be 0 (R63). -/
def decodeFormatN (w : Word) (i : Instr) : Except IllegalWord Instr :=
  if argField w = 0#24 then .ok i else .error .mustBeZeroBitSet

/-- Format B: `w[23:8]` must be 0, BYTE is `w[7:0]` (R64). -/
def decodeFormatB (w : Word) (mk : Byte → Instr) : Except IllegalWord Instr :=
  if w.extractLsb' 8 16 = 0#16 then .ok (mk (byteField w)) else .error .mustBeZeroBitSet

/-- Format H: `w[23:16]` must be 0, HALF is `w[15:0]` (R65). -/
def decodeFormatH (w : Word) (mk : Half → Instr) : Except IllegalWord Instr :=
  if w.extractLsb' 16 8 = 0#8 then .ok (mk (halfField w)) else .error .mustBeZeroBitSet

/-- The decoder of R69. -/
def decode (w : Word) : Except IllegalWord Instr :=
  if opField w = 0x00#8 then decodeFormatN w .nop
  else if opField w = 0x01#8 then decodeFormatN w .init
  else if opField w = 0x02#8 then decodeFormatB w .feed
  else if opField w = 0x03#8 then decodeFormatH w .loadexp
  else if opField w = 0x04#8 then decodeFormatN w .check
  else if opField w = 0x05#8 then decodeFormatN w .readcrc
  else if opField w = 0x06#8 then decodeFormatN w .readstatus
  else if opField w = 0x07#8 then decodeFormatN w .validate
  else .error .unassignedOpcode

/-- A word of format N: OP in bits 31:24, every other bit 0 (R63). -/
def encodeFormatN (op : Byte) : Word := op.setWidth 32 <<< 24

/-- A word of format B: OP in bits 31:24, BYTE in bits 7:0, every other bit 0 (R64). -/
def encodeFormatB (op byte : Byte) : Word := (op.setWidth 32 <<< 24) ||| byte.setWidth 32

/-- A word of format H: OP in bits 31:24, HALF in bits 15:0, every other bit 0 (R65). -/
def encodeFormatH (op : Byte) (half : Half) : Word := (op.setWidth 32 <<< 24) ||| half.setWidth 32

/-- The word of a command, from the opcode map of R67. -/
def encode : Instr → Word
  | .nop => encodeFormatN 0x00#8
  | .init => encodeFormatN 0x01#8
  | .feed b => encodeFormatB 0x02#8 b
  | .loadexp h => encodeFormatH 0x03#8 h
  | .check => encodeFormatN 0x04#8
  | .readcrc => encodeFormatN 0x05#8
  | .readstatus => encodeFormatN 0x06#8
  | .validate => encodeFormatN 0x07#8

/-- One row of the opcode map (R67). -/
structure OpcodeRow where
  mnemonic : String
  matchBits : Word
  maskBits : Word
deriving DecidableEq, Repr

/-- "A word `w` matches a row iff `(w & mask) == match`" (R67). -/
def rowMatches (w : Word) (r : OpcodeRow) : Bool := w &&& r.maskBits == r.matchBits

/-- The opcode map, row for row (R67). -/
def opcodeMap : List OpcodeRow :=
  [ { mnemonic := "NOP", matchBits := 0x00000000#32, maskBits := 0xFFFFFFFF#32 },
    { mnemonic := "INIT", matchBits := 0x01000000#32, maskBits := 0xFFFFFFFF#32 },
    { mnemonic := "FEED", matchBits := 0x02000000#32, maskBits := 0xFFFFFF00#32 },
    { mnemonic := "LOADEXP", matchBits := 0x03000000#32, maskBits := 0xFFFF0000#32 },
    { mnemonic := "CHECK", matchBits := 0x04000000#32, maskBits := 0xFFFFFFFF#32 },
    { mnemonic := "READCRC", matchBits := 0x05000000#32, maskBits := 0xFFFFFFFF#32 },
    { mnemonic := "READSTATUS", matchBits := 0x06000000#32, maskBits := 0xFFFFFFFF#32 },
    { mnemonic := "VALIDATE", matchBits := 0x07000000#32, maskBits := 0xFFFFFFFF#32 } ]

/-- The command word whose bits are the low `nbits` bits of `w`, every bit above them 0. A command is always one
32-bit word (R70). -/
def tableWord (nbits w : Nat) : Word := BitVec.ofNat 32 (w % 2 ^ nbits)

/-- What the decoder reads from the word an opcode-table row gives. -/
def decodeTableWord (nbits w : Nat) : Option Instr := (decode (tableWord nbits w)).toOption

end Sys2Proof
end

