-- ==== Sys2Proof/Config.lean ====
section
/-! DEFINITION. The implementation parameters of R8, each a configuration value, this spec's configuration, and which configurations are admitted. -/

namespace Sys2Proof

/-- The parameters of R8, one field a row. They are fixed before reset and no command writes them (R173). -/
structure Config where
  /-- CRC_WIDTH, the width of CRC and of a TABLE entry in bits (R20, R27). -/
  crcWidth : Nat
  /-- CRC_INIT, the value a checksum starts from (R84, R86). -/
  crcInit : Half
  /-- CRC_LEN, the number of bytes a checksum covers (R84). -/
  crcLen : Nat
  /-- TABLE_SIZE, the number of TABLE's entries (R27). -/
  tableSize : Nat
  /-- CRC_POLY_R, the polynomial in reflected form (R81). -/
  polyR : Half
  /-- CRC_XOROUT, what a final step would add to the checksum (R84). -/
  crcXorOut : Half
  /-- HEADER_FIXED_SIZE, the length gate of VALIDATE in bytes (R121). -/
  headerFixedSize : Nat
  /-- CRC_OFFSET, the frame offset of the stored checksum (R123). -/
  crcOffset : Nat
  /-- COUNT_WIDTH, the width of COUNT in bits (R22). -/
  countWidth : Nat
  /-- The width of a command word in bits (R60). -/
  commandWidth : Nat
  /-- The width of a response word in bits (R61). -/
  responseWidth : Nat
deriving DecidableEq, Repr

/-- CRC_LEN as a value of COUNT (R22). -/
def Config.fullCount (c : Config) : Count := BitVec.ofNat 9 c.crcLen

/-- This spec's configuration: the values of R8's table. -/
def Config.spec : Config :=
  { crcWidth := 16
    crcInit := 0xFFFF#16
    crcLen := 350
    tableSize := 256
    polyR := 0x8408#16
    crcXorOut := 0x0000#16
    headerFixedSize := 512
    crcOffset := 350
    countWidth := 9
    commandWidth := 32
    responseWidth := 32 }

/-- The alternative polynomial that R81 names, the other parameters as in R8. -/
def Config.alternative : Config := { Config.spec with polyR := 0xA001#16 }

/-- The widths and the table size are those of the registers, words and table indices that the rules lay out: the
types `Half`, `Count`, `Word` and `Byte` (R20, R22, R27, R44, R60, R61; DEDUCED, log entry 4). -/
abbrev Config.WidthsAsRuled (c : Config) : Prop :=
  c.crcWidth = 16 ∧ c.tableSize = 2 ^ 8 ∧ c.countWidth = 9 ∧ c.commandWidth = 32 ∧ c.responseWidth = 32

/-- There is a byte to cover, COUNT can hold CRC_LEN ("350 < 512", R8), and the checksum has no final step (R84)
(DEDUCED, log entry 4). -/
abbrev Config.ChecksumAsRuled (c : Config) : Prop :=
  0 < c.crcLen ∧ c.crcLen < 2 ^ c.countWidth ∧ c.crcXorOut = 0x0000#16

/-- The constraints `CRC_OFFSET >= CRC_LEN` and `HEADER_FIXED_SIZE >= CRC_OFFSET + 2` of R8, R121 and R123. -/
abbrev Config.FrameAsRuled (c : Config) : Prop :=
  c.crcLen ≤ c.crcOffset ∧ c.crcOffset + 2 ≤ c.headerFixedSize

/-- A configuration that breaks a constraint "is not admitted" (93_implementation_defined.md). -/
abbrev Config.Admitted (c : Config) : Prop := c.WidthsAsRuled ∧ c.ChecksumAsRuled ∧ c.FrameAsRuled

end Sys2Proof
end

