-- ==== Sys2Proof/Machine/State.lean ====
section
/-! DEFINITION. The state of the block, its reset value, and the reasons a step can stop. -/

namespace Sys2Proof.Machine

/-- The result of the last comparison, held in VERDICT (R24, R141). -/
inductive Verdict where
  /-- 0: no verdict since CRC or EXPECT last changed. -/
  | noVerdict
  /-- 1: `COUNT == CRC_LEN` and `CRC == EXPECT`. -/
  | accepted
  /-- 2: `COUNT == CRC_LEN` and `CRC != EXPECT`. -/
  | mismatch
  /-- 3: the frame is shorter than HEADER_FIXED_SIZE. -/
  | truncated
deriving DecidableEq, Repr

/-- The first command error, held in ERR (R26, R142). "No rule writes a code from 3 to 15, so a model may type ERR as a
three-valued enumeration." -/
inductive CommandError where
  /-- 0: none. -/
  | noError
  /-- 1: an illegal command word (R143). -/
  | illegal
  /-- 2: CHECK with fewer than CRC_LEN bytes consumed (R144). -/
  | incomplete
deriving DecidableEq, Repr

/-- The bytes of a frame by offset, as a list of cells. An unlisted offset inside the frame holds the byte 0, which
is a matter of representation only: every byte sequence has exactly one canonical list (DESIGN CHOICE, log entry 5). -/
abbrev Memory := List Host.Cell

/-- The frame `F[0] .. F[L-1]` the host offers on the frame port (R40). -/
structure Frame where
  /-- The length `L`, a natural number, possibly 0. -/
  length : Nat
  /-- The bytes at offsets below `L`. -/
  cells : Memory
deriving DecidableEq, Repr

/-- What the host does to the block, one event at a time (R50). -/
inductive HostEvent where
  /-- A command word on the command port (R60) with the frame offered beside it on the frame port (R40, R62). -/
  | command (word : Word) (frame : Frame)
  /-- The reset input, applied between commands (R170). -/
  | reset
deriving DecidableEq, Repr

/-- The state: the registers of R20 to R26, the configuration that is fixed before reset (R173; DESIGN CHOICE, log
entry 3) and the ports (DESIGN CHOICE, log entries 1 and 2). STATUS and DONE are views (R28, R29) and TABLE is a
constant of the configuration (R27), so none of the three is a field. There is no program counter (R25). -/
structure State where
  /-- The configuration; no command writes it. -/
  cfg : Config
  /-- CRC (R20). -/
  crc : Half
  /-- EXPECT (R21). -/
  expect : Half
  /-- COUNT (R22). -/
  count : Count
  /-- OVERRUN (R23). -/
  overrun : Bool
  /-- VERDICT (R24). -/
  verdict : Verdict
  /-- ERR (R26). -/
  err : CommandError
  /-- The host's events not yet served, oldest first: the first is what stands on the command and frame ports now. -/
  inputs : List HostEvent
  /-- The response words produced on the response port so far, oldest first (R61). -/
  responses : List Word
deriving DecidableEq, Repr

/-- The reasons the block stops with a fault. The spec gives the block none (R145: nothing stops it). -/
inductive Fault where
  /-- Raised by VALIDATE's reads of the frame at an offset that the frame does not have. Safe: only a configuration
  that is not admitted could raise it, and `step` refuses that configuration first, so no run meets it (log
  entry 6). -/
  | frameOffsetAbsent
deriving DecidableEq, Repr

/-- The reasons a step has no meaning. -/
inductive Refusal where
  /-- Raised by a dispatch arm whose instruction has no meaning yet; none is left. Safe. -/
  | notModelled (mnemonic : String)
  /-- Raised by `step` for a configuration that breaks a constraint of R121 or R123, "the configuration is not
  admitted" (93_implementation_defined.md), or one of log entry 4. Safe: there is no such block (log entry 7). -/
  | configurationNotAdmitted
deriving DecidableEq, Repr

/-- The block right after reset in configuration `c`, with nothing on its ports (R34, R171). -/
def State.resetWith (c : Config) : State :=
  { cfg := c
    crc := c.crcInit
    expect := 0x0000#16
    count := 0#9
    overrun := false
    verdict := .noVerdict
    err := .noError
    inputs := []
    responses := [] }

/-- The block right after reset in this spec's configuration (R8, R34). -/
def State.reset : State := State.resetWith Config.spec

end Sys2Proof.Machine
end

