-- ==== Sys2Proof/Machine/Flags.lean ====
section
/-! DEFINITION. The codes of VERDICT and ERR, DONE, and the STATUS word: all the flags the block has (R31). -/

namespace Sys2Proof.Machine

/-- The 2-bit code of VERDICT (R24, R141). -/
def Verdict.code : Verdict → BitVec 2
  | .noVerdict => 0#2
  | .accepted => 1#2
  | .mismatch => 2#2
  | .truncated => 3#2

/-- The 4-bit code of ERR (R26, R142). -/
def CommandError.code : CommandError → BitVec 4
  | .noError => 0#4
  | .illegal => 1#4
  | .incomplete => 2#4

/-- `DONE = (COUNT == CRC_LEN)` (R29), compared as unsigned numbers (R10). -/
def State.done (s : State) : Bool := s.count.toNat == s.cfg.crcLen

/-- `zext_32({COUNT[8:0], 8'b0, ERR[3:0], VERDICT[1:0], OVERRUN, DONE})` (R28). -/
def packStatus (count : Count) (err : BitVec 4) (verdict : BitVec 2) (overrun done : Bool) : Word :=
  (count ++ 0#8 ++ err ++ verdict ++ BitVec.ofBool overrun ++ BitVec.ofBool done).setWidth 32

/-- STATUS, a view of the registers and not a register (R28). -/
def State.statusWord (s : State) : Word :=
  packStatus s.count s.err.code s.verdict.code s.overrun s.done

/-- The verdict of the comparison in R102 and R124: equality of the two 16-bit values, with no masking. -/
def compareVerdict (crc expect : Half) : Verdict := if crc = expect then .accepted else .mismatch

/-- "An error is recorded only if ERR is 0 (first error wins)" (R13, R26). -/
def firstError (old new : CommandError) : CommandError :=
  match old with
  | .noError => new
  | .illegal => .illegal
  | .incomplete => .incomplete

end Sys2Proof.Machine
end

