-- ==== Sys2Proof/Machine/Frame.lean ====
section
/-! DEFINITION. The frame: its canonical form, the reads of one and of several bytes, and the frame of a byte list. -/

namespace Sys2Proof.Machine

/-- What an unlisted offset inside the frame holds (log entry 5). -/
def unlistedByte : Byte := 0x00#8

/-- The byte the cells hold at an offset. -/
def Memory.read : Memory → Nat → Byte
  | [], _ => unlistedByte
  | (k, b) :: rest, a => if k = a then b else Memory.read rest a

/-- Every offset listed is at least `from_`, offsets rise strictly, and no cell holds the unlisted byte. -/
def Memory.wfFrom (from_ : Nat) : Memory → Bool
  | [] => true
  | (k, b) :: rest => decide (from_ ≤ k) && decide (b ≠ unlistedByte) && Memory.wfFrom (k + 1) rest

/-- The one canonical form of a list of cells. -/
def Memory.wf (m : Memory) : Bool := Memory.wfFrom 0 m

/-- A canonical frame lists only offsets below its length. -/
def Frame.wf (f : Frame) : Bool := Memory.wf f.cells && f.cells.all fun c => decide (c.1 < f.length)

/-- The frame of length 0. -/
def Frame.empty : Frame := { length := 0, cells := [] }

/-- The cells of the bytes `bs` placed at offsets `a`, `a + 1`, and so on. -/
def Memory.ofBytes : Nat → List Byte → Memory
  | _, [] => []
  | a, b :: bs => if b = unlistedByte then Memory.ofBytes (a + 1) bs else (a, b) :: Memory.ofBytes (a + 1) bs

/-- The frame the host offers when the file's bytes are `bs`: `F[0]` is the first byte (R40). -/
def Frame.ofBytes (bs : List Byte) : Frame := { length := bs.length, cells := Memory.ofBytes 0 bs }

/-- `F[a]`, where the frame has that offset (R40): byte-granular, without alignment, translation or side effect
(R46, R47, R49). -/
def Frame.byte? (f : Frame) (a : Nat) : Option Byte :=
  if a < f.length then some (Memory.read f.cells a) else none

/-- `F[a], F[a + 1], ..., F[a + n - 1]` in ascending order (R42), where the frame has all of them. -/
def Frame.bytes? (f : Frame) : Nat → Nat → Option (List Byte)
  | _, 0 => some []
  | a, n + 1 =>
    match f.byte? a, f.bytes? (a + 1) n with
    | some b, some bs => some (b :: bs)
    | _, _ => none

/-- The number that bytes make in little-endian order: the byte at the lowest offset is the least significant (R12). -/
def littleEndian : List Byte → Nat
  | [] => 0
  | b :: bs => b.toNat + 256 * littleEndian bs

/-- `MemRead(addr, n)` (R12, R42). `MemWrite` does not exist (R12, R43). -/
def Frame.memRead (f : Frame) (addr n : Nat) : Option (BitVec (8 * n)) :=
  (f.bytes? addr n).map fun bs => BitVec.ofNat (8 * n) (littleEndian bs)

/-- The frame an event offers on the frame port; the reset input offers none. -/
def HostEvent.frame : HostEvent → Frame
  | .command _ f => f
  | .reset => Frame.empty

/-- Every frame the host offers is in canonical form. -/
def State.framesWf (s : State) : Bool := s.inputs.all fun e => e.frame.wf

end Sys2Proof.Machine
end

