-- ==== Sys2Proof/Machine/Operands.lean ====
section
/-! DEFINITION. Where a command takes its operands from: the command word (BYTE and HALF are the constructor's fields, taken as is, R66) and the frame port. -/

namespace Sys2Proof.Machine

/-- `zext_32` of a 16-bit value (R9, R61). -/
def zext32 (h : Half) : Word := h.setWidth 32

/-- The frame on the frame port: the one offered with the command that stands on the command port (R40, R62). With
nothing offered the port holds the frame of length 0 (DESIGN CHOICE, log entry 14; `step` runs no command then). -/
def State.framePort (s : State) : Frame :=
  match s.inputs with
  | [] => Frame.empty
  | e :: _ => e.frame

/-- The bytes a checksum covers: `F[0], ..., F[CRC_LEN-1]` (R84, R122). -/
def Frame.coveredBytes? (f : Frame) (crcLen : Nat) : Option (List Byte) := f.bytes? 0 crcLen

/-- The stored checksum `MemRead(CRC_OFFSET, 2)` (R42). -/
def Frame.storedChecksum? (f : Frame) (crcOffset : Nat) : Option Half := f.memRead crcOffset 2

end Sys2Proof.Machine
end

