-- ==== Sys2Proof/Machine/Table.lean ====
section
/-! DEFINITION. The lookup table, the CRC step function and the checksum of a byte sequence. -/

namespace Sys2Proof.Machine

/-- One round of the loop in R82: `if c[0] == 1 then (c >> 1) ^ P else c >> 1`. -/
def shiftRound (p c : Half) : Half := if c.getLsbD 0 then (c >>> 1) ^^^ p else c >>> 1

/-- `n` rounds of the loop in R82. -/
def shiftRounds (p : Half) : Nat → Half → Half
  | 0, c => c
  | n + 1, c => shiftRounds p n (shiftRound p c)

/-- `gen(P, i)` of R82. -/
def gen (p : Half) (i : Byte) : Half := shiftRounds p 8 (i.setWidth 16)

/-- `TABLE[i]` for the polynomial `p`: "`TABLE[i] = gen(CRC_POLY_R, i)`" (R27, R82). Every 8-bit index is valid (R44). -/
def table (p : Half) (i : Byte) : Half := gen p i

/-- The step function `T(c, b)` of R83. -/
def crcStep (p c : Half) (b : Byte) : Half :=
  (c >>> 8) ^^^ table p (((c ^^^ b.setWidth 16) &&& 0x00FF#16).setWidth 8)

/-- The step function taken over bytes in order, from the CRC value `c`. -/
def crcFold (p c : Half) (bs : List Byte) : Half := bs.foldl (crcStep p) c

/-- `CRC16(b_0, ..., b_{n-1})` of R84: from CRC_INIT, with no step after the last byte. -/
def crc16 (c : Config) (bs : List Byte) : Half := crcFold c.polyR c.crcInit bs

/-- The bit-serial form of R85: the byte is added in, then eight rounds. -/
def crcStepSerial (p c : Half) (b : Byte) : Half := shiftRounds p 8 (c ^^^ b.setWidth 16)

end Sys2Proof.Machine
end

