-- ==== Sys2Proof/Machine/Ops.lean ====
section
/-! DEFINITION. The operations that the commands share: the response port, the start of a checksum, one byte consumed or discarded, the comparison, a recorded error, reset, and what the host does at the ports. -/

namespace Sys2Proof.Machine

/-- A command's end: one response word is produced (R61) and the command and its frame leave the ports (R40, R51). -/
def State.respond (s : State) (w : Word) : State :=
  { s with inputs := s.inputs.tail, responses := s.responses ++ [w] }

/-- `response <- STATUS`, the STATUS word after the command's effects (R61). -/
def State.respondStatus (s : State) : State := s.respond s.statusWord

/-- INIT's register writes, which VALIDATE begins with too (R86, R124). EXPECT is unchanged. -/
def State.startChecksum (s : State) : State :=
  { s with crc := s.cfg.crcInit, count := 0#9, overrun := false, verdict := .noVerdict, err := .noError }

/-- A byte consumed into the checksum (R87, first branch). -/
def State.consumeByte (s : State) (b : Byte) : State :=
  { s with crc := crcStep s.cfg.polyR s.crc b, count := s.count + 1#9, verdict := .noVerdict }

/-- A byte discarded because CRC_LEN bytes are already consumed (R87, second branch). -/
def State.discardByte (s : State) : State := { s with overrun := true }

/-- FEED's register writes (R87). -/
def State.feedByte (s : State) (b : Byte) : State :=
  if s.count.toNat < s.cfg.crcLen then s.consumeByte b else s.discardByte

/-- LOADEXP's register writes (R101). -/
def State.loadExpected (s : State) (h : Half) : State := { s with expect := h, verdict := .noVerdict }

/-- The comparison of CRC with EXPECT, written to VERDICT (R102, R124). -/
def State.judge (s : State) : State := { s with verdict := compareVerdict s.crc s.expect }

/-- `raise E`: the one way an error is taken (R13, R145). There is no trap: the error is recorded if ERR is 0, nothing
is saved, and the next command executes normally. -/
def State.raise (s : State) (e : CommandError) : State := { s with err := firstError s.err e }

/-- CHECK's register writes (R102, R144). -/
def State.checkChecksum (s : State) : State := if s.done then s.judge else s.raise .incomplete

/-- An illegal command word (R143): ERR, the response, nothing else. -/
def State.illegalWord (s : State) : State := (s.raise .illegal).respondStatus

/-- VALIDATE's writes for a frame that fails the length gate, after INIT's writes (R121, R124). -/
def State.markTruncated (s : State) : State := { s with verdict := .truncated }

/-- VALIDATE's writes for a frame that passes the length gate, after INIT's writes: the covered bytes go into CRC,
the stored checksum into EXPECT, and the two are compared (R124). -/
def State.loadFrame (s : State) (covered : List Byte) (stored : Half) : State :=
  State.judge
    { s with crc := crcFold s.cfg.polyR s.crc covered, count := s.cfg.fullCount, expect := stored }

/-- The reset input (R170): every register at its value of R34. The configuration is not a register (R173); reset is
no command, so it gives no response, and the host's later events stand (DESIGN CHOICE, log entry 8). -/
def State.resetInput (s : State) : State :=
  { State.resetWith s.cfg with inputs := s.inputs.tail, responses := s.responses }

/-- Nothing on the ports: the block waits (R172; DEDUCED, log entry 1). -/
def State.waitForCommand (s : State) : State := s

/-- The host adds command words, each with its frame, to what it will issue, in order (R25, R71). -/
def State.offerProgram (s : State) (p : List (Word × Frame)) : State :=
  { s with inputs := s.inputs ++ p.map fun c => HostEvent.command c.1 c.2 }

/-- The host presents the word `w` as its next command: in the place of the word it would present next, with the
frame that one offers, or, where its next event is no command, before it with the empty frame. -/
def State.presentWord (s : State) (w : Word) : State :=
  match s.inputs with
  | .command _ f :: rest => { s with inputs := .command w f :: rest }
  | events => { s with inputs := .command w Frame.empty :: events }

end Sys2Proof.Machine
end

