-- ==== Sys2Proof/Machine/Compare.lean ====
section
/-! DEFINITION. The meanings of the compare and read-out commands: NOP, LOADEXP, CHECK, READCRC, READSTATUS (spec/41_compare_readout.md). -/

namespace Sys2Proof.Machine

/-- NOP (R100). -/
def execNop (s : State) : Host.Outcome State Fault Refusal := .next s.respondStatus

/-- LOADEXP (R101). -/
def execLoadexp (half : Half) (s : State) : Host.Outcome State Fault Refusal :=
  .next (s.loadExpected half).respondStatus

/-- CHECK (R102, R144). -/
def execCheck (s : State) : Host.Outcome State Fault Refusal := .next s.checkChecksum.respondStatus

/-- READCRC (R103): the only command whose response is not STATUS. -/
def execReadcrc (s : State) : Host.Outcome State Fault Refusal := .next (s.respond (zext32 s.crc))

/-- READSTATUS (R104). -/
def execReadstatus (s : State) : Host.Outcome State Fault Refusal := .next s.respondStatus

end Sys2Proof.Machine
end

