-- ==== Sys2Proof/Machine/Datapath.lean ====
section
/-! DEFINITION. The meanings of the CRC datapath commands: INIT and FEED (spec/40_crc_datapath.md). -/

namespace Sys2Proof.Machine

/-- INIT (R86). -/
def execInit (s : State) : Host.Outcome State Fault Refusal := .next s.startChecksum.respondStatus

/-- FEED (R87). -/
def execFeed (byte : Byte) (s : State) : Host.Outcome State Fault Refusal := .next (s.feedByte byte).respondStatus

end Sys2Proof.Machine
end

