-- ==== Sys2Proof/Machine/Validate.lean ====
section
/-! DEFINITION. The meaning of VALIDATE (spec/42_frame_validate.md). -/

namespace Sys2Proof.Machine

/-- VALIDATE (R120 to R124): INIT's writes, then the length gate, tested before any byte is read (R146), then the
covered bytes and the stored checksum. The last arm is the access to an absent offset, which no admitted configuration
meets (log entry 6). -/
def execValidate (s : State) : Host.Outcome State Fault Refusal :=
  if s.framePort.length < s.cfg.headerFixedSize then
    .next s.startChecksum.markTruncated.respondStatus
  else
    match s.framePort.coveredBytes? s.cfg.crcLen, s.framePort.storedChecksum? s.cfg.crcOffset with
    | some covered, some stored => .next (s.startChecksum.loadFrame covered stored).respondStatus
    | _, _ => .fault .frameOffsetAbsent

end Sys2Proof.Machine
end

