-- ==== Sys2Proof/Machine/Dispatch.lean ====
section
/-! DEFINITION. One arm per command: what executing it does. -/

namespace Sys2Proof.Machine

def exec (i : Instr) (s : State) : Host.Outcome State Fault Refusal :=
  match i with
  | .nop => Sys2Proof.Machine.execNop s
  | .init => Sys2Proof.Machine.execInit s
  | .feed byte => Sys2Proof.Machine.execFeed byte s
  | .loadexp half => Sys2Proof.Machine.execLoadexp half s
  | .check => Sys2Proof.Machine.execCheck s
  | .readcrc => Sys2Proof.Machine.execReadcrc s
  | .readstatus => Sys2Proof.Machine.execReadstatus s
  | .validate => Sys2Proof.Machine.execValidate s

end Sys2Proof.Machine
end

