-- ==== Sys2Proof/Machine/Command.lean ====
section
/-! DEFINITION. One command word: decoded and executed, or recorded as illegal. -/

namespace Sys2Proof.Machine

/-- "Decoding comes first: an illegal word raises ILLEGAL and is not executed" (R146, R69, R143). -/
def runCommand (w : Word) (s : State) : Host.Outcome State Fault Refusal :=
  match decode w with
  | .ok i => exec i s
  | .error _ => .next s.illegalWord

/-- Commands executed one after another, each complete before the next begins (R51), stopping at the first fault or
refusal: what the host gets when it issues them in that order. -/
def execAll : List Instr → State → Host.Outcome State Fault Refusal
  | [], s => .next s
  | i :: is, s =>
    match exec i s with
    | .next t => execAll is t
    | .fault r => .fault r
    | .refused r => .refused r

end Sys2Proof.Machine
end

