-- ==== Sys2Proof/Machine/Step.lean ====
section
/-! DEFINITION. One step: the host's next event is served, or the block waits. -/

namespace Sys2Proof.Machine

/-- One step of the block. The block fetches nothing (R25): the host's next event stands on the ports. A configuration
that is not admitted has no run (93_implementation_defined.md). -/
def step (s : State) : Host.Outcome State Fault Refusal :=
  if s.cfg.Admitted then
    match s.inputs with
    | [] => .next s.waitForCommand
    | .reset :: _ => .next s.resetInput
    | .command w _ :: _ => runCommand w s
  else
    .refused .configurationNotAdmitted

/-- The state in which the host presents next the command word that an opcode-table row gives (log entry 9). -/
def State.withFetchWord (s : State) (nbits w : Nat) : State := s.presentWord (tableWord nbits w)

end Sys2Proof.Machine
end

