-- ==== Sys2Proof/Machine/Asm.lean ====
section
/-! DEFINITION. The assembler of R71 and R72: the words of a line, and the reader of a line's text. -/

namespace Sys2Proof.Machine

/-- The words a checked line stands for: one for a command or a `.word` (R71), the expansion of a pseudo-instruction
(R72). -/
def expandLine : AsmLine → List Word
  | .nop => [encode .nop]
  | .init => [encode .init]
  | .feed n => [encode (.feed (BitVec.ofNat 8 n))]
  | .loadexp n => [encode (.loadexp (BitVec.ofNat 16 n))]
  | .check => [encode .check]
  | .readcrc => [encode .readcrc]
  | .readstatus => [encode .readstatus]
  | .validate => [encode .validate]
  | .word n => [BitVec.ofNat 32 n]
  | .feeds ns => ns.map fun n => encode (.feed (BitVec.ofNat 8 n))
  | .feedz n => List.replicate n (encode (.feed 0x00#8))
  | .verify n => [encode (.loadexp (BitVec.ofNat 16 n)), encode .check]

/-- The words of a line; a line with a value out of range is refused, never truncated (R71). -/
def assembleLine (l : AsmLine) : Option (List Word) := if l.wf then some (expandLine l) else none

/-- A space, a tab or a carriage return (DESIGN CHOICE, log entry 13). -/
def isBlank (c : Char) : Bool := c == ' ' || c == '\t' || c == '\r'

/-- The text without the blanks at either end. -/
def trimBlanks (t : List Char) : List Char := ((t.dropWhile isBlank).reverse.dropWhile isBlank).reverse

/-- The text before the first `;`, where a comment begins (R71). -/
def stripComment (t : List Char) : List Char := t.takeWhile fun c => c != ';'

/-- The pieces of a text between the separators `sep`, in order; a text without one is one piece. -/
def splitAtChar (sep : Char) : List Char → List (List Char)
  | [] => [[]]
  | c :: cs =>
    if c == sep then [] :: splitAtChar sep cs
    else
      match splitAtChar sep cs with
      | [] => [[c]]
      | p :: ps => (c :: p) :: ps

/-- The digits of R71's two number forms, in the order of their values: the first ten are the decimal ones. -/
def digitCharacters : List Char := "0123456789ABCDEF".toList

/-- The place of a digit among those listed, which is its value. -/
def placeAmong (digit : Char) : List Char → Option Nat
  | [] => none
  | d :: more => if digit = d then some 0 else (placeAmong digit more).map (· + 1)

/-- The value of a digit in base 10 or 16; the letters may be of either case (DESIGN CHOICE, log entry 13). -/
def digitValue (base : Nat) (digit : Char) : Option Nat := placeAmong digit.toUpper (digitCharacters.take base)

/-- The number a list of digit values makes, the most significant first. -/
def numberOfDigits (base : Nat) (values : List Nat) : Nat := values.foldl (fun high v => high * base + v) 0

/-- The values of all the digits of a number; any other character refuses it. -/
def digitValues (base : Nat) : List Char → Option (List Nat)
  | [] => some []
  | digit :: more =>
    match digitValue base digit, digitValues base more with
    | some v, some vs => some (v :: vs)
    | _, _ => none

/-- The number written by at least one digit. -/
def readDigits (base : Nat) (digits : List Char) : Option Nat :=
  if digits.isEmpty then none else (digitValues base digits).map (numberOfDigits base)

/-- A number "in decimal or as `0x` hexadecimal". R71 says so of `imm8` and `imm16`; that every other number of a line
is read so too is DESIGN CHOICE, log entry 13. -/
def readNumber (t : List Char) : Option Nat :=
  if t.take 2 = ['0', 'x'] then readDigits 16 (t.drop 2) else readDigits 10 t

/-- Numbers separated by commas (R72). -/
def readNumbers : List (List Char) → Option (List Nat)
  | [] => some []
  | p :: ps => (readNumber (trimBlanks p)).bind fun n => (readNumbers ps).map fun ns => n :: ns

/-- The mnemonic of a line, up to its first blank, and the operand text after it. -/
def splitMnemonic (t : List Char) : List Char × List Char :=
  (t.takeWhile fun c => !isBlank c, trimBlanks (t.dropWhile fun c => !isBlank c))

/-- A line that has no operand. -/
def withoutOperand (operand : List Char) (l : AsmLine) : Option AsmLine := if operand.isEmpty then some l else none

/-- A line that has one number as operand. -/
def withNumber (operand : List Char) (mk : Nat → AsmLine) : Option AsmLine := (readNumber operand).map mk

/-- The line a mnemonic and its operand text make (R71, R72); every other mnemonic is refused. R71 gives the number forms
of `imm8` and `imm16` only: that the `imm32` of `.word` and the `n` of FEEDZ take both forms, and that FEEDZ takes any
`n`, 0 too, are DESIGN CHOICES, log entry 13. -/
def readStatement (mnemonic operand : List Char) : Option AsmLine :=
  if mnemonic = ['N', 'O', 'P'] then withoutOperand operand .nop
  else if mnemonic = ['I', 'N', 'I', 'T'] then withoutOperand operand .init
  else if mnemonic = ['F', 'E', 'E', 'D'] then withNumber operand .feed
  else if mnemonic = ['L', 'O', 'A', 'D', 'E', 'X', 'P'] then withNumber operand .loadexp
  else if mnemonic = ['C', 'H', 'E', 'C', 'K'] then withoutOperand operand .check
  else if mnemonic = ['R', 'E', 'A', 'D', 'C', 'R', 'C'] then withoutOperand operand .readcrc
  else if mnemonic = ['R', 'E', 'A', 'D', 'S', 'T', 'A', 'T', 'U', 'S'] then withoutOperand operand .readstatus
  else if mnemonic = ['V', 'A', 'L', 'I', 'D', 'A', 'T', 'E'] then withoutOperand operand .validate
  else if mnemonic = ['.', 'w', 'o', 'r', 'd'] then withNumber operand .word
  else if mnemonic = ['F', 'E', 'E', 'D', 'S'] then (readNumbers (splitAtChar ',' operand)).map .feeds
  else if mnemonic = ['F', 'E', 'E', 'D', 'Z'] then withNumber operand .feedz
  else if mnemonic = ['V', 'E', 'R', 'I', 'F', 'Y'] then withNumber operand .verify
  else none

/-- The words of one line of text: none for a line with nothing but blanks and a comment, a refusal (`none`) for a
line that is not of R71 or R72. -/
def assembleText (line : List Char) : Option (List Word) :=
  let t := trimBlanks (stripComment line)
  if t.isEmpty then some []
  else (readStatement (splitMnemonic t).1 (splitMnemonic t).2).bind assembleLine

/-- The words of lines in order, refused where one of them is. -/
def assembleLines : List (List Char) → Option (List Word)
  | [] => some []
  | l :: ls => (assembleText l).bind fun ws => (assembleLines ls).map fun more => ws ++ more

/-- The words of a program text, "one command per line" (R71). -/
def assembleProgram (text : List Char) : Option (List Word) := assembleLines (splitAtChar '\n' text)

end Sys2Proof.Machine
end

