-- ==== Sys2Proof/Safety.lean ====
section
/-! DEFINITION. What a safe state and a safe run of the block are, in the terms the claims use. -/

namespace Sys2Proof.Machine

/-- The invariants of R30. (e), `ERR in {0, 1, 2}`, is said of the code; (f), reserved STATUS bits are 0, of the
STATUS word. -/
structure State.Inv (s : State) : Prop where
  /-- (a) `COUNT <= CRC_LEN`. -/
  countBounded : s.count.toNat ≤ s.cfg.crcLen
  /-- (b) `VERDICT in {ACCEPTED, MISMATCH}` implies `DONE == 1`. -/
  judgedIsDone : s.verdict = .accepted ∨ s.verdict = .mismatch → s.done = true
  /-- (c) `VERDICT == ACCEPTED` implies `CRC == EXPECT`. -/
  acceptedIsEqual : s.verdict = .accepted → s.crc = s.expect
  /-- (c) `VERDICT == MISMATCH` implies `CRC != EXPECT`. -/
  mismatchIsUnequal : s.verdict = .mismatch → s.crc ≠ s.expect
  /-- (d) `VERDICT == TRUNCATED` implies `COUNT == 0` and `CRC == CRC_INIT`. -/
  truncatedIsFresh : s.verdict = .truncated → s.count = 0#9 ∧ s.crc = s.cfg.crcInit
  /-- (e) `ERR in {0, 1, 2}`. -/
  errCode : s.err.code = 0#4 ∨ s.err.code = 1#4 ∨ s.err.code = 2#4
  /-- (f) Reserved STATUS bits are 0. -/
  reservedZero : s.statusWord.extractLsb' 8 8 = 0#8 ∧ s.statusWord.extractLsb' 25 7 = 0#7

/-- CRC and COUNT describe the bytes `bs`, the ones consumed since the last restart: CRC is their checksum and COUNT
their number (R20, R22, R84). -/
def State.Consumed (s : State) (bs : List Byte) : Prop := s.crc = crc16 s.cfg bs ∧ s.count.toNat = bs.length

/-- The bytes consumed since the last restart once the host's next event is served, `bs` being those before it: none
after INIT, reset or a VALIDATE that fails the length gate, one more after a FEED below CRC_LEN, the frame's covered
bytes after any other VALIDATE (R22, R86, R87, R124, R170). -/
def State.consumedAfter (s : State) (bs : List Byte) : List Byte :=
  match s.inputs with
  | [] => bs
  | .reset :: _ => []
  | .command w f :: _ =>
    match decode w with
    | .ok .init => []
    | .ok (.feed b) => if bs.length < s.cfg.crcLen then bs ++ [b] else bs
    | .ok .validate =>
      if f.length < s.cfg.headerFixedSize then [] else (f.coveredBytes? s.cfg.crcLen).getD []
    | .ok .nop | .ok (.loadexp _) | .ok .check | .ok .readcrc | .ok .readstatus | .error _ => bs

/-- The registers of R20 to R26 agree. -/
def State.SameRegisters (s t : State) : Prop :=
  s.crc = t.crc ∧ s.expect = t.expect ∧ s.count = t.count ∧ s.overrun = t.overrun ∧
    s.verdict = t.verdict ∧ s.err = t.err

/-- A command that takes `s` to `t` is complete (R51): it produced exactly one response word, `w` (R61), it and its
frame left the ports (R40), every other event of the host's stands as it was, and the configuration is the same
(R173). -/
def State.Responds (s t : State) (w : Word) : Prop :=
  t.responses = s.responses ++ [w] ∧ t.inputs = s.inputs.tail ∧ t.cfg = s.cfg

/-- The next state of an outcome, where it is one. -/
def nextState? (o : Host.Outcome State Fault Refusal) : Option State :=
  match o with
  | .next t => some t
  | .fault _ => none
  | .refused _ => none

/-- A step stops neither with a fault nor with a refusal: the safe outcome (R145). -/
def GoesOn (o : Host.Outcome State Fault Refusal) : Prop := ∃ t, o = .next t

/-- The byte at offset `a` of the frame that the host offers with its `k`-th event still to be served. -/
def State.offeredByte? (s : State) (k a : Nat) : Option Byte := s.inputs[k]?.bind fun e => e.frame.byte? a

end Sys2Proof.Machine
end

