-- ==== Sys2Proof/Certificates/Slice0/Obligations.lean ====
section
/-! DEFINITION. The statements for the provers. A command's result statement says every register of the next state, the response word and what leaves the ports, so it is the command's frame and its completion too. The fields `inputs` and `responses` are the model's form of the ports (log entries 1 and 2), which no rule fixes. -/

open Sys2Proof Sys2Proof.Machine

/-! ## Reset -/

/-- R34: after reset every register holds the value of R34's table, CRC that of CRC_INIT; STATUS is 0; TABLE is the
constant of R82 for the configuration's polynomial. -/
def Obligations.ResetRegistersHoldRuleValues : Prop :=
  State.reset = State.resetWith Config.spec ∧ State.reset.crc = 0xFFFF#16 ∧ State.reset.statusWord = 0x00000000#32 ∧
  ∀ c : Config, (State.resetWith c).crc = c.crcInit ∧ (State.resetWith c).count = 0#9 ∧
    (State.resetWith c).expect = 0x0000#16 ∧ (State.resetWith c).overrun = false ∧
    (State.resetWith c).verdict = .noVerdict ∧ (State.resetWith c).err = .noError ∧
    (c.Admitted → (State.resetWith c).statusWord = 0x00000000#32) ∧
    ∀ i : Byte, table (State.resetWith c).cfg.polyR i = gen c.polyR i

/-- R170: the reset input, in any state, puts every register in the state of R34. -/
def Obligations.ResetInputRestoresRegisters : Prop :=
  ∀ (s : State) (rest : List HostEvent), s.cfg.Admitted → s.inputs = .reset :: rest →
    ∃ t, step s = .next t ∧ t.SameRegisters (State.resetWith s.cfg) ∧ t.cfg = s.cfg

/-- R172: with no command word on the command port the block waits: the step changes nothing (log entry 1). -/
def Obligations.IdleBlockWaits : Prop :=
  ∀ s : State, s.cfg.Admitted → s.inputs = [] → step s = .next s

/-! ## Each command: its word, its result, its frame -/

/-- R100, NOP: no register changes, and the response is STATUS. -/
def Obligations.NopChangesNoRegister : Prop :=
  decode 0x00000000#32 = .ok .nop ∧
  ∀ s : State, ∃ t, exec .nop s = .next t ∧ t.SameRegisters s ∧ s.Responds t t.statusWord

/-- R86, INIT: CRC is CRC_INIT, COUNT, OVERRUN, VERDICT and ERR are cleared, EXPECT is kept, the response is STATUS,
which is 0; and no command besides INIT and VALIDATE clears ERR. -/
def Obligations.InitStartsChecksum : Prop :=
  decode 0x01000000#32 = .ok .init ∧ Config.spec.crcInit = 0xFFFF#16 ∧
  (∀ s : State, ∃ t, exec .init s = .next t ∧ t.crc = s.cfg.crcInit ∧ t.count = 0#9 ∧ t.overrun = false ∧
    t.verdict = .noVerdict ∧ t.err = .noError ∧ t.expect = s.expect ∧ s.Responds t t.statusWord ∧
    (s.cfg.Admitted → t.done = false ∧ t.statusWord = 0x00000000#32)) ∧
  ∀ (i : Instr) (s t : State), exec i s = .next t → s.err ≠ .noError → t.err = .noError →
    i = .init ∨ i = .validate

/-- R87, FEED: below CRC_LEN the byte goes into CRC by R83, COUNT rises by 1 and the verdict is cleared; at CRC_LEN
the byte is discarded and OVERRUN set. Nothing else changes, ERR included. The two values are R87's own. -/
def Obligations.FeedConsumesOrDiscards : Prop :=
  (∀ b : Byte, decode (0x02000000#32 ||| b.setWidth 32) = .ok (.feed b)) ∧
  (∀ p : Half, crcStep p 0xFFFF#16 0xFF#8 = 0x00FF#16) ∧ crcStep 0x8408#16 0xFFFF#16 0x31#8 = 0x2F8D#16 ∧
  (∀ (b : Byte) (s : State), s.cfg.Admitted → s.count.toNat < s.cfg.crcLen → ∃ t, exec (.feed b) s = .next t ∧
    t.crc = crcStep s.cfg.polyR s.crc b ∧ t.count.toNat = s.count.toNat + 1 ∧ t.verdict = .noVerdict ∧
    (t.done = true ↔ s.count.toNat + 1 = s.cfg.crcLen) ∧ t.expect = s.expect ∧ t.overrun = s.overrun ∧
    t.err = s.err ∧ s.Responds t t.statusWord) ∧
  ∀ (b : Byte) (s : State), s.cfg.crcLen ≤ s.count.toNat → ∃ t, exec (.feed b) s = .next t ∧
    t.SameRegisters { s with overrun := true } ∧ s.Responds t t.statusWord

/-- R101, LOADEXP: EXPECT takes HALF and the verdict is cleared, nothing else changes. -/
def Obligations.LoadexpLoadsExpect : Prop :=
  (∀ v : Half, decode (0x03000000#32 ||| v.setWidth 32) = .ok (.loadexp v)) ∧
  ∀ (v : Half) (s : State), ∃ t, exec (.loadexp v) s = .next t ∧
    t.SameRegisters { s with expect := v, verdict := .noVerdict } ∧ s.Responds t t.statusWord

/-- R102 and R144, CHECK: with COUNT at CRC_LEN the verdict is the comparison and nothing else changes; otherwise
INCOMPLETE is recorded if ERR is 0 and nothing else changes, the verdict included. -/
def Obligations.CheckComparesOrRaises : Prop :=
  decode 0x04000000#32 = .ok .check ∧
  (∀ s : State, s.count.toNat = s.cfg.crcLen → ∃ t, exec .check s = .next t ∧
    (s.crc = s.expect → t.verdict = .accepted) ∧ (s.crc ≠ s.expect → t.verdict = .mismatch) ∧
    t.SameRegisters { s with verdict := t.verdict } ∧ s.Responds t t.statusWord) ∧
  ∀ s : State, s.count.toNat ≠ s.cfg.crcLen → ∃ t, exec .check s = .next t ∧
    (s.err = .noError → t.err = .incomplete) ∧ (s.err ≠ .noError → t.err = s.err) ∧
    t.SameRegisters { s with err := t.err } ∧ s.Responds t t.statusWord

/-- R103, READCRC: no register changes, and the response is CRC zero-extended. -/
def Obligations.ReadcrcReadsCrc : Prop :=
  decode 0x05000000#32 = .ok .readcrc ∧
  ∀ s : State, ∃ t w, exec .readcrc s = .next t ∧ t.SameRegisters s ∧ s.Responds t w ∧
    w.extractLsb' 0 16 = s.crc ∧ w.extractLsb' 16 16 = 0#16

/-- R104, READSTATUS: no register changes, no sticky field is cleared, and the response is STATUS. -/
def Obligations.ReadstatusReadsStatus : Prop :=
  decode 0x06000000#32 = .ok .readstatus ∧
  ∀ s : State, ∃ t, exec .readstatus s = .next t ∧ t.SameRegisters s ∧ s.Responds t s.statusWord

/-- R124, VALIDATE: a short frame gives INIT's state with TRUNCATED and EXPECT kept; any other frame gives the
checksum of its first CRC_LEN bytes in CRC, its stored checksum in EXPECT, COUNT at CRC_LEN and the comparison. -/
def Obligations.ValidateJudgesFrame : Prop :=
  decode 0x07000000#32 = .ok .validate ∧
  (∀ s : State, s.framePort.length < s.cfg.headerFixedSize → ∃ t, exec .validate s = .next t ∧
    t.crc = s.cfg.crcInit ∧ t.count = 0#9 ∧ t.overrun = false ∧ t.verdict = .truncated ∧ t.err = .noError ∧
    t.expect = s.expect ∧ (s.cfg.Admitted → t.done = false) ∧ s.Responds t t.statusWord) ∧
  ∀ s : State, s.cfg.Admitted → s.cfg.headerFixedSize ≤ s.framePort.length →
    ∃ (t : State) (covered : List Byte) (lo hi : Byte), exec .validate s = .next t ∧
      covered.length = s.cfg.crcLen ∧ (∀ j < s.cfg.crcLen, covered[j]? = s.framePort.byte? j) ∧
      s.framePort.byte? s.cfg.crcOffset = some lo ∧ s.framePort.byte? (s.cfg.crcOffset + 1) = some hi ∧
      t.crc = covered.foldl (crcStep s.cfg.polyR) s.cfg.crcInit ∧ t.expect = hi ++ lo ∧
      t.count.toNat = s.cfg.crcLen ∧ t.done = true ∧ t.overrun = false ∧ t.err = .noError ∧
      (t.crc = t.expect → t.verdict = .accepted) ∧ (t.crc ≠ t.expect → t.verdict = .mismatch) ∧
      s.Responds t t.statusWord

/-- R143: a word that matches no row of the opcode map records ILLEGAL if ERR is 0 and changes no other register. -/
def Obligations.IllegalWordRecordsError : Prop :=
  ∀ (s : State) (w : Word) (f : Frame) (rest : List HostEvent), s.cfg.Admitted →
    s.inputs = .command w f :: rest → (∀ r ∈ opcodeMap, rowMatches w r = false) →
    ∃ t, step s = .next t ∧ (s.err = .noError → t.err = .illegal) ∧ (s.err ≠ .noError → t.err = s.err) ∧
      t.SameRegisters { s with err := t.err } ∧ s.Responds t t.statusWord

/-! ## A step, the encoding and the assembler -/

/-- When the word on the command port decodes to a command, the step is that command's effect, with nothing around
it. -/
def Obligations.StepRunsDecodedCommand : Prop :=
  ∀ (s : State) (w : Word) (f : Frame) (rest : List HostEvent) (i : Instr), s.cfg.Admitted →
    s.inputs = .command w f :: rest → decode w = .ok i → i.wf = true → step s = exec i s

/-- The word that `withFetchWord` presents is the one the next step runs (the model's own, log entry 9). -/
def Obligations.PresentedWordRunsNext : Prop :=
  ∀ (s : State) (nbits w : Nat) (i : Instr), s.cfg.Admitted → decodeTableWord nbits w = some i →
    step (s.withFetchWord nbits w) = exec i (s.withFetchWord nbits w)

/-- Decode and encode agree in both directions: every command is read back from its word with every operand, and a
legal word is the word of the command it decodes to. -/
def Obligations.DecodeEncodeAgree : Prop :=
  (∀ i : Instr, i.wf = true → decode (encode i) = .ok i) ∧
  ∀ (w : Word) (i : Instr), decode w = .ok i → encode i = w

/-- R67: a word is legal iff it matches a row of the opcode map, it then decodes to a command with that row's
mnemonic, and no two rows match the same word. -/
def Obligations.DecodeFollowsOpcodeMap : Prop :=
  ∀ w : Word,
    ((∃ i, decode w = .ok i) ↔ ∃ r ∈ opcodeMap, rowMatches w r = true) ∧
    (∀ i, decode w = .ok i → ∀ r ∈ opcodeMap, rowMatches w r = true → r.mnemonic = i.mnemonic) ∧
    ∀ r ∈ opcodeMap, ∀ r' ∈ opcodeMap, rowMatches w r = true → rowMatches w r' = true → r = r'

/-- R68's two kinds of illegal word: (a) OP in 0x08 .. 0xFF, (b) a legal OP with a must-be-zero bit set. -/
def Obligations.IllegalWordsAreOfTwoKinds : Prop :=
  ∀ w : Word,
    (decode w = .error .unassignedOpcode ↔ 0x08#8 ≤ w.extractLsb' 24 8) ∧
    (decode w = .error .mustBeZeroBitSet ↔
      w.extractLsb' 24 8 < 0x08#8 ∧ ∀ r ∈ opcodeMap, rowMatches w r = false)

/-- Words written out from the spec's encodings decode to the commands they stand for (V-E1 to V-E6 and the opcode
map). -/
def Obligations.WordsFromTheSpecDecode : Prop :=
  decode 0x00000000#32 = .ok .nop ∧ decode 0x01000000#32 = .ok .init ∧ decode 0x020000FF#32 = .ok (.feed 0xFF#8) ∧
  decode 0x0300FFFF#32 = .ok (.loadexp 0xFFFF#16) ∧ decode 0x04000000#32 = .ok .check ∧
  decode 0x05000000#32 = .ok .readcrc ∧ decode 0x06000000#32 = .ok .readstatus ∧
  decode 0x07000000#32 = .ok .validate ∧ decode 0x02000100#32 = .error .mustBeZeroBitSet ∧
  decode 0x09000000#32 = .error .unassignedOpcode

/-- R71: the word of each assembler line, the operand in the low bits, and the refusal of a value out of range (that
`.word` refuses what is no 32-bit word is deduced, log entry 13). -/
def Obligations.AssemblerEmitsRuleWords : Prop :=
  assembleLine .nop = some [0x00000000#32] ∧ assembleLine .init = some [0x01000000#32] ∧
  (∀ n : Nat, n ≤ 255 → assembleLine (.feed n) = some [0x02000000#32 ||| BitVec.ofNat 32 n]) ∧
  (∀ n : Nat, 255 < n → assembleLine (.feed n) = none) ∧
  (∀ n : Nat, n ≤ 65535 → assembleLine (.loadexp n) = some [0x03000000#32 ||| BitVec.ofNat 32 n]) ∧
  (∀ n : Nat, 65535 < n → assembleLine (.loadexp n) = none) ∧
  assembleLine .check = some [0x04000000#32] ∧ assembleLine .readcrc = some [0x05000000#32] ∧
  assembleLine .readstatus = some [0x06000000#32] ∧ assembleLine .validate = some [0x07000000#32] ∧
  (∀ n : Nat, n < 2 ^ 32 → assembleLine (.word n) = some [BitVec.ofNat 32 n]) ∧
  ∀ n : Nat, 2 ^ 32 ≤ n → assembleLine (.word n) = none

/-- The expansions of R72: FEEDS is its bytes' FEEDs in order, FEEDZ n is n copies of FEED 0, VERIFY is LOADEXP then
CHECK. R72 gives the `n` of FEEDZ no range: that every `n` is taken, 0 too, is the model's choice, and that each byte of
FEEDS is an `imm8` is deduced (log entry 13). -/
def Obligations.PseudoInstructionsExpand : Prop :=
  (∀ ns : List Nat, ns ≠ [] → (∀ n ∈ ns, n ≤ 255) →
    assembleLine (.feeds ns) = some (ns.map fun n => 0x02000000#32 ||| BitVec.ofNat 32 n)) ∧
  (∀ n : Nat, assembleLine (.feedz n) = some (List.replicate n 0x02000000#32)) ∧
  ∀ n : Nat, n ≤ 65535 →
    assembleLine (.verify n) = some [0x03000000#32 ||| BitVec.ofNat 32 n, 0x04000000#32]

/-! ## STATUS and the responses -/

/-- R28: the STATUS word, field by field, reserved bits 0, with the codes of VERDICT and ERR. -/
def Obligations.StatusWordLayout : Prop :=
  (∀ s : State, s.statusWord.extractLsb' 0 1 = BitVec.ofBool (s.count.toNat == s.cfg.crcLen) ∧
    s.statusWord.extractLsb' 1 1 = BitVec.ofBool s.overrun ∧ s.statusWord.extractLsb' 2 2 = s.verdict.code ∧
    s.statusWord.extractLsb' 4 4 = s.err.code ∧ s.statusWord.extractLsb' 8 8 = 0#8 ∧
    s.statusWord.extractLsb' 16 9 = s.count ∧ s.statusWord.extractLsb' 25 7 = 0#7) ∧
  Verdict.noVerdict.code = 0#2 ∧ Verdict.accepted.code = 1#2 ∧ Verdict.mismatch.code = 2#2 ∧
  Verdict.truncated.code = 3#2 ∧ CommandError.noError.code = 0#4 ∧ CommandError.illegal.code = 1#4 ∧
  CommandError.incomplete.code = 2#4

/-- R61: every command word, legal or not, produces exactly one response word after its effects: CRC for READCRC,
STATUS for every other word. -/
def Obligations.EveryWordGetsOneResponse : Prop :=
  ∀ (s : State) (w : Word) (f : Frame) (rest : List HostEvent), s.cfg.Admitted →
    s.inputs = .command w f :: rest →
    ∃ t, step s = .next t ∧
      s.Responds t (if w = 0x05000000#32 then t.crc.setWidth 32 else t.statusWord)

/-! ## Whole-machine rules -/

/-- R30: the invariants that every command and reset preserve, over every state that meets them. -/
def Obligations.StepKeepsInvariant : Prop :=
  ∀ s t : State, s.Inv → step s = .next t → t.Inv

/-- R171: the reset state meets the invariants of R30, in every configuration. -/
def Obligations.InvariantHoldsAtReset : Prop :=
  State.reset.Inv ∧ ∀ c : Config, (State.resetWith c).Inv

/-- R145 and R151: nothing stops the block: in an admitted configuration every step goes on, whatever the state, the
word and the frame; and the two configurations the spec names are admitted (by log entry 4's constraints too). -/
def Obligations.AdmittedBlockNeverStops : Prop :=
  Config.spec.Admitted ∧ Config.alternative.Admitted ∧ ∀ s : State, s.cfg.Admitted → GoesOn (step s)

/-- A configuration that breaks a constraint of R121 or R123 is not admitted, and neither is one that breaks a
constraint of log entry 4: no step (log entry 7). -/
def Obligations.UnadmittedConfigurationIsRefused : Prop :=
  ∀ s : State, (s.cfg.crcOffset < s.cfg.crcLen ∨ s.cfg.headerFixedSize < s.cfg.crcOffset + 2 ∨
      s.cfg.crcWidth ≠ 16 ∨ s.cfg.tableSize ≠ 256 ∨ s.cfg.countWidth ≠ 9 ∨ s.cfg.commandWidth ≠ 32 ∨
      s.cfg.responseWidth ≠ 32 ∨ s.cfg.crcLen = 0 ∨ 512 ≤ s.cfg.crcLen ∨ s.cfg.crcXorOut ≠ 0x0000#16) →
    step s = .refused .configurationNotAdmitted

/-- R35's writes: which command may change which register; no step changes the configuration (R173). -/
def Obligations.OnlyNamedCommandsWriteRegisters : Prop :=
  (∀ (i : Instr) (s t : State), exec i s = .next t →
    (t.crc ≠ s.crc → i = .init ∨ (∃ b, i = .feed b) ∨ i = .validate) ∧
    (t.count ≠ s.count → i = .init ∨ (∃ b, i = .feed b) ∨ i = .validate) ∧
    (t.expect ≠ s.expect → (∃ v, i = .loadexp v) ∨ i = .validate) ∧
    (t.overrun ≠ s.overrun → i = .init ∨ (∃ b, i = .feed b) ∨ i = .validate) ∧
    (t.verdict ≠ s.verdict →
      i = .init ∨ (∃ b, i = .feed b) ∨ (∃ v, i = .loadexp v) ∨ i = .check ∨ i = .validate) ∧
    (t.err ≠ s.err → i = .init ∨ i = .check ∨ i = .validate)) ∧
  ∀ s t : State, step s = .next t → t.cfg = s.cfg

/-- R146, R147 and R23: a recorded error stays the first one, and OVERRUN stays set, until INIT, VALIDATE or reset. -/
def Obligations.ErrorsAndOverrunAreSticky : Prop :=
  ∀ s t : State, step s = .next t →
    (s.err ≠ .noError ∧ t.err ≠ s.err ∨ s.overrun = true ∧ t.overrun = false) →
    t.err = .noError ∧ t.overrun = false ∧
      ((∃ rest, s.inputs = .reset :: rest) ∨ (∃ f rest, s.inputs = .command 0x01000000#32 f :: rest) ∨
        ∃ f rest, s.inputs = .command 0x07000000#32 f :: rest)

/-- No step writes a frame (R43): every byte of every frame still offered reads as before. That the later frames stand
across a step, reset included, and move up by one, is the model's list of events (log entries 1 and 8). -/
def Obligations.NoStepWritesAFrame : Prop :=
  (∀ (s t : State) (k a : Nat), s.inputs ≠ [] → step s = .next t → t.offeredByte? k a = s.offeredByte? (k + 1) a) ∧
  (∀ (s t : State) (k a : Nat), s.inputs = [] → step s = .next t → t.offeredByte? k a = s.offeredByte? k a) ∧
  ∀ (i : Instr) (s t : State) (k a : Nat), exec i s = .next t → t.offeredByte? k a = s.offeredByte? (k + 1) a

/-- Frames stay canonical, and a canonical frame is determined by its length and its bytes (log entry 5). -/
def Obligations.FramesStayCanonical : Prop :=
  (∀ s t : State, s.framesWf = true → step s = .next t → t.framesWf = true) ∧
  ∀ f g : Frame, f.wf = true → g.wf = true → f.length = g.length → (∀ a, f.byte? a = g.byte? a) → f = g

/-! ## The checksum -/

/-- R82: the table's entries 0 and 0x80, for every polynomial. -/
def Obligations.TableFixedEntries : Prop :=
  ∀ p : Half, table p 0x00#8 = 0x0000#16 ∧ table p 0x80#8 = p

/-- R89 and R90: the generated tables are the two the spec prints. -/
def Obligations.TablesAreThePrintedOnes : Prop :=
  (∀ i : Byte, listing8408[i.toNat]? = some (table 0x8408#16 i)) ∧
  (∀ i : Byte, listingA001[i.toNat]? = some (table 0xA001#16 i)) ∧
  listing8408.length = 256 ∧ listingA001.length = 256

/-- R83: only `c[7:0] ^ b` indexes the table, and `c >> 8` is the high byte zero-extended. -/
def Obligations.StepIndexesWithLowByte : Prop :=
  ∀ (p c : Half) (b : Byte),
    crcStep p c b = (c.extractLsb' 8 8).setWidth 16 ^^^ table p (c.extractLsb' 0 8 ^^^ b)

/-- R84: the checksum starts at CRC_INIT, takes the bytes in order, and has no final step. -/
def Obligations.ChecksumIsTheFoldOfSteps : Prop :=
  crc16 Config.spec [] = 0xFFFF#16 ∧
  ∀ c : Config, crc16 c [] = c.crcInit ∧
    (∀ (bs : List Byte) (b : Byte), crc16 c (bs ++ [b]) = crcStep c.polyR (crc16 c bs) b) ∧
    (∀ bs : List Byte, crc16 c bs = bs.foldl (crcStep c.polyR) c.crcInit) ∧
    (c.Admitted → ∀ bs : List Byte, crc16 c bs ^^^ c.crcXorOut = crc16 c bs)

/-- R85: the table-driven step is the bit-serial one, for every polynomial, CRC value and byte; and the two check
values. -/
def Obligations.TableStepIsBitSerial : Prop :=
  (∀ (p c : Half) (b : Byte), crcStep p c b = crcStepSerial p c b) ∧
  crc16 Config.spec [0x31#8, 0x32#8, 0x33#8, 0x34#8, 0x35#8, 0x36#8, 0x37#8, 0x38#8, 0x39#8] = 0x6F91#16 ∧
  crc16 Config.alternative [0x31#8, 0x32#8, 0x33#8, 0x34#8, 0x35#8, 0x36#8, 0x37#8, 0x38#8, 0x39#8] = 0x4B37#16

/-- R88 (b): for a fixed sequence length, changing any single bit of any byte changes the checksum, under both
polynomials the spec names. -/
def Obligations.SingleBitFlipChangesChecksum : Prop :=
  ∀ c : Config, c.polyR = 0x8408#16 ∨ c.polyR = 0xA001#16 →
    ∀ (before after : List Byte) (b : Byte) (k : Nat), k < 8 →
      crc16 c (before ++ (b ^^^ (1#8 <<< k)) :: after) ≠ crc16 c (before ++ b :: after)

/-- R87 and R173: whatever is fed after INIT, or right after reset, CRC is the checksum of exactly the first CRC_LEN
bytes (350 in the spec's configuration), COUNT stops at CRC_LEN and OVERRUN says whether a byte was discarded. -/
def Obligations.FeedsCoverExactlyFirst350Bytes : Prop :=
  Config.spec.crcLen = 350 ∧
  (∀ (s : State) (bs : List Byte), s.cfg.Admitted → ∃ t, execAll (.init :: bs.map .feed) s = .next t ∧
    t.crc = crc16 s.cfg (bs.take s.cfg.crcLen) ∧ t.count.toNat = min bs.length s.cfg.crcLen ∧
    t.overrun = decide (s.cfg.crcLen < bs.length) ∧ t.verdict = .noVerdict ∧ t.err = .noError ∧ t.expect = s.expect ∧
    t.responses.length = s.responses.length + bs.length + 1) ∧
  ∀ (c : Config) (bs : List Byte), c.Admitted → ∃ t, execAll (bs.map .feed) (State.resetWith c) = .next t ∧
    t.crc = crc16 c (bs.take c.crcLen) ∧ t.count.toNat = min bs.length c.crcLen ∧
    t.overrun = decide (c.crcLen < bs.length)

/-- R102: after the full count, exactly one of the 65536 values of EXPECT is accepted for the CRC held. -/
def Obligations.ExactlyOneExpectIsAccepted : Prop :=
  ∀ s : State, s.count.toNat = s.cfg.crcLen →
    ∃ v : Half, ∀ v' : Half, (∃ t, execAll [.loadexp v', .check] s = .next t ∧ t.verdict = .accepted) ↔ v' = v

/-! ## The frame -/

/-- R12: MemRead of one byte and of two, little-endian, where the frame has the offsets. The third clause, that a read
past the frame's end gives nothing, is the model's choice and no rule's (log entry 6). -/
def Obligations.MemReadIsLittleEndian : Prop :=
  ∀ (f : Frame) (a : Nat),
    (∀ b, f.byte? a = some b → f.memRead a 1 = some b) ∧
    (∀ lo hi, f.byte? a = some lo → f.byte? (a + 1) = some hi → f.memRead a 2 = some (hi ++ lo)) ∧
    (f.length < a + 2 → f.memRead a 2 = none)

/-- R41 and R124 (a): VALIDATE's result depends on the length gate and on the bytes at offsets below CRC_LEN,
CRC_OFFSET and CRC_OFFSET + 1 alone: not on any other byte, nor on any state before, but for EXPECT after TRUNCATED. -/
def Obligations.ValidateDependsOnReadBytesOnly : Prop :=
  ∀ s s' : State, s.cfg = s'.cfg → s.cfg.Admitted →
    (s.framePort.length < s.cfg.headerFixedSize ↔ s'.framePort.length < s.cfg.headerFixedSize) →
    (s.cfg.headerFixedSize ≤ s.framePort.length →
      (∀ j < s.cfg.crcLen, s.framePort.byte? j = s'.framePort.byte? j) ∧
      s.framePort.byte? s.cfg.crcOffset = s'.framePort.byte? s.cfg.crcOffset ∧
      s.framePort.byte? (s.cfg.crcOffset + 1) = s'.framePort.byte? (s.cfg.crcOffset + 1)) →
    ∃ t t', exec .validate s = .next t ∧ exec .validate s' = .next t' ∧
      t.SameRegisters { t' with expect := t.expect } ∧ t.statusWord = t'.statusWord ∧
      (s.cfg.headerFixedSize ≤ s.framePort.length → t.expect = t'.expect)

/-- R122: a frame that passes the length gate is ACCEPTED iff the checksum of its first CRC_LEN bytes equals the stored
one, and MISMATCH otherwise. -/
def Obligations.AcceptedIffChecksumsEqual : Prop :=
  ∀ (s : State) (covered : List Byte) (lo hi : Byte), s.cfg.Admitted →
    s.cfg.headerFixedSize ≤ s.framePort.length → covered.length = s.cfg.crcLen →
    (∀ j < s.cfg.crcLen, covered[j]? = s.framePort.byte? j) → s.framePort.byte? s.cfg.crcOffset = some lo →
    s.framePort.byte? (s.cfg.crcOffset + 1) = some hi →
    ∃ t, exec .validate s = .next t ∧ (t.verdict = .accepted ↔ crc16 s.cfg covered = hi ++ lo) ∧
      (t.verdict = .mismatch ↔ crc16 s.cfg covered ≠ hi ++ lo)

/-- R121: the verdict is TRUNCATED iff the frame is shorter than HEADER_FIXED_SIZE, and no byte of a short frame is
read: another short frame in its place gives the same registers and response. -/
def Obligations.LengthGateDecidesTruncated : Prop :=
  (∀ s : State, s.cfg.Admitted → ∃ t, exec .validate s = .next t ∧
    (t.verdict = .truncated ↔ s.framePort.length < s.cfg.headerFixedSize)) ∧
  ∀ (s : State) (w : Word) (f g : Frame) (rest : List HostEvent), f.length < s.cfg.headerFixedSize →
    g.length < s.cfg.headerFixedSize →
    exec .validate { s with inputs := .command w f :: rest } =
      exec .validate { s with inputs := .command w g :: rest }

/-- The source's round trip (R123): a frame whose stored checksum is the checksum of its first CRC_LEN bytes, put there
little-endian, is accepted. -/
def Obligations.StoredChecksumIsAccepted : Prop :=
  ∀ (s : State) (bs : List Byte), s.cfg.Admitted → s.cfg.headerFixedSize ≤ bs.length →
    s.framePort = Frame.ofBytes
      ((bs.set s.cfg.crcOffset ((crc16 s.cfg (bs.take s.cfg.crcLen)).extractLsb' 0 8)).set (s.cfg.crcOffset + 1)
        ((crc16 s.cfg (bs.take s.cfg.crcLen)).extractLsb' 8 8)) →
    ∃ t, exec .validate s = .next t ∧ t.verdict = .accepted ∧ t.crc = crc16 s.cfg (bs.take s.cfg.crcLen)

/-- R125: VALIDATE leaves the registers and the response of INIT, the CRC_LEN FEEDs, LOADEXP and CHECK; on a short frame
it leaves the state of INIT with the verdict TRUNCATED. -/
def Obligations.ValidateEqualsStreamingCommands : Prop :=
  (∀ (s : State) (bs : List Byte) (v : Half), s.cfg.Admitted → s.cfg.headerFixedSize ≤ s.framePort.length →
    bs.length = s.cfg.crcLen → (∀ j < s.cfg.crcLen, bs[j]? = s.framePort.byte? j) →
    s.framePort.memRead s.cfg.crcOffset 2 = some v →
    ∃ t u, exec .validate s = .next t ∧
      execAll (.init :: (bs.map .feed ++ [.loadexp v, .check])) s = .next u ∧
      t.SameRegisters u ∧ t.responses.getLast? = u.responses.getLast?) ∧
  ∀ s : State, s.framePort.length < s.cfg.headerFixedSize → ∃ t u, exec .validate s = .next t ∧
    exec .init s = .next u ∧ t.SameRegisters { u with verdict := .truncated }

/-! ## The configuration, and the bytes consumed -/

/-- R8: each parameter is a value of the configuration; this spec's configuration holds the values of R8's table and
meets its two constraints, as every admitted configuration does; the alternative differs in the polynomial alone. -/
def Obligations.ConfigurationHoldsRuleValues : Prop :=
  Config.spec.crcWidth = 16 ∧ Config.spec.crcInit = 0xFFFF#16 ∧ Config.spec.crcLen = 0x15E ∧
  Config.spec.tableSize = 256 ∧ Config.spec.polyR = 0x8408#16 ∧ Config.spec.crcXorOut = 0x0000#16 ∧
  Config.spec.headerFixedSize = 0x200 ∧ Config.spec.crcOffset = 0x15E ∧ Config.spec.countWidth = 9 ∧
  Config.spec.commandWidth = 32 ∧ Config.spec.responseWidth = 32 ∧
  Config.spec.crcOffset ≥ Config.spec.crcLen ∧ Config.spec.headerFixedSize ≥ Config.spec.crcOffset + 2 ∧
  Config.alternative = { Config.spec with polyR := 0xA001#16 } ∧
  ∀ c : Config, c.Admitted → c.crcOffset ≥ c.crcLen ∧ c.headerFixedSize ≥ c.crcOffset + 2

/-- R20, R22 and R29 as an invariant: CRC is the checksum, and COUNT the number, of the bytes consumed since the last
INIT, VALIDATE or reset, and DONE says that there are CRC_LEN of them. Every step keeps this, whatever the event: a
word of INIT and the reset input start with no byte, a FEED below CRC_LEN adds its byte at the end, a VALIDATE takes the
frame's bytes or none, and every other word, and a wait, leaves the bytes as they are. It holds with no byte at reset. -/
def Obligations.StepKeepsChecksumOfConsumedBytes : Prop :=
  (∀ (s t : State) (bs : List Byte), s.Consumed bs → step s = .next t → t.Consumed (s.consumedAfter bs)) ∧
  (∀ (s : State) (bs : List Byte), s.Consumed bs → (s.done = true ↔ bs.length = s.cfg.crcLen)) ∧
  ∀ c : Config, (State.resetWith c).Consumed []
end

