-- ==== Sys2Proof/Laws/Config.lean ====
section
/-! SUPPORT. What an admitted configuration gives its user. -/

namespace Sys2Proof

/-- CRC_LEN fits COUNT. -/
theorem Config.Admitted.crcLen_lt {c : Config} (h : c.Admitted) : c.crcLen < 512 := by
  obtain ⟨⟨-, -, hw, -, -⟩, ⟨-, hl, -⟩, -⟩ := h
  simpa [hw] using hl

/-- There is a byte to cover. -/
theorem Config.Admitted.crcLen_pos {c : Config} (h : c.Admitted) : 0 < c.crcLen := h.2.1.1

/-- There is no final step. -/
theorem Config.Admitted.crcXorOut_eq {c : Config} (h : c.Admitted) : c.crcXorOut = 0x0000#16 := h.2.1.2.2

/-- The stored checksum lies after the covered bytes (R123). -/
theorem Config.Admitted.crcLen_le {c : Config} (h : c.Admitted) : c.crcLen ≤ c.crcOffset := h.2.2.1

/-- The stored checksum lies inside the fixed header (R121). -/
theorem Config.Admitted.crcOffset_le {c : Config} (h : c.Admitted) : c.crcOffset + 2 ≤ c.headerFixedSize := h.2.2.2

/-- COUNT's full value is CRC_LEN. -/
theorem Config.Admitted.fullCount_toNat {c : Config} (h : c.Admitted) : c.fullCount.toNat = c.crcLen := by
  have := h.crcLen_lt
  simp only [Config.fullCount, BitVec.toNat_ofNat]
  omega

end Sys2Proof
end

