-- ==== Sys2Proof/Laws/Crc.lean ====
section
/-! SUPPORT. The laws of the CRC step function: the fold, and the linearity of one round. -/

namespace Sys2Proof.Machine

/-- No byte leaves the CRC as it is. -/
@[simp] theorem crcFold_nil (p c : Half) : crcFold p c [] = c := rfl

/-- The first byte is taken first. -/
@[simp] theorem crcFold_cons (p c : Half) (b : Byte) (bs : List Byte) :
    crcFold p c (b :: bs) = crcFold p (crcStep p c b) bs := rfl

/-- Bytes in two parts are taken one part after the other. -/
theorem crcFold_append (p c : Half) (as bs : List Byte) :
    crcFold p c (as ++ bs) = crcFold p (crcFold p c as) bs := by simp [crcFold]

/-- One round is linear over XOR in the value it shifts. -/
theorem shiftRound_xor (p c d : Half) : shiftRound p (c ^^^ d) = shiftRound p c ^^^ shiftRound p d := by
  unfold shiftRound
  simp only [BitVec.getLsbD_xor, BitVec.ushiftRight_xor_distrib]
  generalize c >>> 1 = x
  generalize d >>> 1 = y
  cases c.getLsbD 0 <;> cases d.getLsbD 0 <;> simp <;> ext j hj <;> simp <;>
    cases x[j] <;> cases y[j] <;> cases p[j] <;> rfl

/-- Any number of rounds is linear over XOR. -/
theorem shiftRounds_xor (p : Half) (n : Nat) : ∀ c d : Half,
    shiftRounds p n (c ^^^ d) = shiftRounds p n c ^^^ shiftRounds p n d := by
  induction n with
  | zero => intro c d; rfl
  | succ n ih => intro c d; simp only [shiftRounds, shiftRound_xor, ih]

end Sys2Proof.Machine
end

