-- ==== Sys2Proof/Laws/Decode.lean ====
section
/-! SUPPORT. The fields of the words that the encoder makes. -/

namespace Sys2Proof

/-- A byte has no bit at or above 8. -/
theorem byte_getLsbD_high (b : Byte) {j : Nat} (h : 8 ≤ j) : b.getLsbD j = false := BitVec.getLsbD_of_ge b j h

/-- A halfword has no bit at or above 16. -/
theorem half_getLsbD_high (v : Half) {j : Nat} (h : 16 ≤ j) : v.getLsbD j = false := BitVec.getLsbD_of_ge v j h

/-- OP of a word of format N. -/
@[simp] theorem opField_encodeFormatN (op : Byte) : opField (encodeFormatN op) = op := by
  ext i hi
  simp [opField, encodeFormatN, show 24 + i < 32 by omega, BitVec.getLsbD_eq_getElem hi]

/-- OP of a word of format B. -/
@[simp] theorem opField_encodeFormatB (op b : Byte) : opField (encodeFormatB op b) = op := by
  ext i hi
  simp [opField, encodeFormatB, show 24 + i < 32 by omega, BitVec.getLsbD_eq_getElem hi,
    byte_getLsbD_high b (j := 24 + i) (by omega)]

/-- OP of a word of format H. -/
@[simp] theorem opField_encodeFormatH (op : Byte) (v : Half) : opField (encodeFormatH op v) = op := by
  ext i hi
  simp [opField, encodeFormatH, show 24 + i < 32 by omega, BitVec.getLsbD_eq_getElem hi,
    half_getLsbD_high v (j := 24 + i) (by omega)]

/-- BYTE of a word of format B. -/
@[simp] theorem byteField_encodeFormatB (op b : Byte) : byteField (encodeFormatB op b) = b := by
  ext i hi
  simp [byteField, encodeFormatB, show i < 32 by omega, show i < 24 by omega, BitVec.getLsbD_eq_getElem hi]

/-- HALF of a word of format H. -/
@[simp] theorem halfField_encodeFormatH (op : Byte) (v : Half) : halfField (encodeFormatH op v) = v := by
  ext i hi
  simp [halfField, encodeFormatH, show i < 32 by omega, show i < 24 by omega, BitVec.getLsbD_eq_getElem hi]

/-- The must-be-zero bits of a word of format N. -/
@[simp] theorem argField_encodeFormatN (op : Byte) : argField (encodeFormatN op) = 0#24 := by
  ext i hi
  simp [argField, encodeFormatN, hi]

/-- The must-be-zero bits of a word of format B. -/
@[simp] theorem zeroField_encodeFormatB (op b : Byte) : (encodeFormatB op b).extractLsb' 8 16 = 0#16 := by
  ext i hi
  simp [encodeFormatB, show 8 + i < 24 by omega]

/-- The must-be-zero bits of a word of format H. -/
@[simp] theorem zeroField_encodeFormatH (op : Byte) (v : Half) : (encodeFormatH op v).extractLsb' 16 8 = 0#8 := by
  ext i hi
  simp [encodeFormatH, show 16 + i < 24 by omega]

/-- A byte in the low bits has no bit under FEED's mask. -/
theorem byte_and_feedMask (b : Byte) : b.setWidth 32 &&& 0xFFFFFF00#32 = 0#32 := by
  ext j hj
  rcases Nat.lt_or_ge j 8 with h | h
  · have : ∀ j < 8, (0xFFFFFF00#32).getLsbD j = false := by decide
    simp [← BitVec.getLsbD_eq_getElem, this j h]
  · simp [← BitVec.getLsbD_eq_getElem, byte_getLsbD_high b h]

/-- A halfword in the low bits has no bit under LOADEXP's mask. -/
theorem half_and_loadexpMask (v : Half) : v.setWidth 32 &&& 0xFFFF0000#32 = 0#32 := by
  ext j hj
  rcases Nat.lt_or_ge j 16 with h | h
  · have : ∀ j < 16, (0xFFFF0000#32).getLsbD j = false := by decide
    simp [← BitVec.getLsbD_eq_getElem, this j h]
  · simp [← BitVec.getLsbD_eq_getElem, half_getLsbD_high v h]

end Sys2Proof
end

