-- ==== Sys2Proof/Laws/Flags.lean ====
section
/-! SUPPORT. The bits of the STATUS word. -/

namespace Sys2Proof.Machine

/-- Bit `i` of STATUS: DONE, OVERRUN, VERDICT, ERR, reserved, COUNT, as R28 lays them out. -/
theorem packStatus_getLsbD (c : Count) (e : BitVec 4) (v : BitVec 2) (o d : Bool) (i : Nat) (h : i < 32) :
    (packStatus c e v o d).getLsbD i =
      if i < 1 then d
      else if i < 2 then o
      else if i < 4 then v.getLsbD (i - 2)
      else if i < 8 then e.getLsbD (i - 4)
      else if i < 16 then false
      else c.getLsbD (i - 16) := by
  unfold packStatus
  rw [BitVec.getLsbD_setWidth, BitVec.getLsbD_append, BitVec.getLsbD_append, BitVec.getLsbD_append,
    BitVec.getLsbD_append, BitVec.getLsbD_append]
  simp only [h, decide_true, Bool.true_and, BitVec.getLsbD_ofBool, BitVec.getLsbD_zero]
  simp only [show i - 1 < 1 ↔ i < 2 by omega, show i - 1 - 1 = i - 2 by omega, show i - 2 < 2 ↔ i < 4 by omega,
    show i - 2 - 2 = i - 4 by omega, show i - 4 < 4 ↔ i < 8 by omega, show i - 4 - 4 < 8 ↔ i < 16 by omega,
    show i - 4 - 4 - 8 = i - 16 by omega]
  split
  · next h0 => simp [show i = 0 by omega]
  · split
    · next h1 => simp [show i = 1 by omega]
    · rfl

end Sys2Proof.Machine
end

