-- ==== Sys2Proof/Laws/Frame.lean ====
section
/-! SUPPORT. The frame's laws: reads, the little-endian value, the canonical form, and the frame of a byte list. -/

namespace Sys2Proof.Machine

/-- An offset is readable iff it is below the length (R40). -/
theorem Frame.byte?_isSome (f : Frame) (a : Nat) : (f.byte? a).isSome ↔ a < f.length := by
  unfold Frame.byte?; split <;> simp_all

/-- What reading several bytes gives: as many as asked, each the byte at its own offset. -/
theorem Frame.bytes?_spec {f : Frame} {n : Nat} : ∀ {a : Nat} {bs : List Byte}, f.bytes? a n = some bs →
    bs.length = n ∧ ∀ j < n, bs[j]? = f.byte? (a + j) := by
  induction n with
  | zero => intro a bs h; simp_all [Frame.bytes?]
  | succ n ih =>
    intro a bs h
    simp only [Frame.bytes?] at h
    split at h
    · rename_i b bs' hb hbs
      obtain rfl : b :: bs' = bs := by simpa using h
      obtain ⟨hlen, hget⟩ := ih hbs
      refine ⟨by simp [hlen], fun j hj => ?_⟩
      cases j with
      | zero => simp [hb]
      | succ j => simpa [Nat.add_assoc, Nat.add_comm 1 j] using hget j (by omega)
    · simp at h

/-- Reading several bytes succeeds exactly inside the frame. -/
theorem Frame.bytes?_of_le {f : Frame} {n : Nat} : ∀ {a : Nat}, a + n ≤ f.length → ∃ bs, f.bytes? a n = some bs := by
  induction n with
  | zero => intro a _; exact ⟨[], rfl⟩
  | succ n ih =>
    intro a h
    obtain ⟨bs, hbs⟩ := ih (a := a + 1) (by omega)
    obtain ⟨b, hb⟩ := Option.isSome_iff_exists.mp ((f.byte?_isSome a).mpr (by omega))
    exact ⟨b :: bs, by simp [Frame.bytes?, hb, hbs]⟩

/-- Several bytes are determined by the bytes at their offsets. -/
theorem Frame.bytes?_eq_of_byte? {f : Frame} {a n : Nat} {bs : List Byte} (hlen : bs.length = n)
    (hget : ∀ j < n, bs[j]? = f.byte? (a + j)) : f.bytes? a n = some bs := by
  induction n generalizing a bs with
  | zero => simp_all [Frame.bytes?]
  | succ n ih =>
    cases bs with
    | nil => simp at hlen
    | cons b bs =>
      have h0 : f.byte? a = some b := by simpa using (hget 0 (by omega)).symm
      have hrest : f.bytes? (a + 1) n = some bs :=
        ih (by simpa using hlen) fun j hj => by
          have := hget (j + 1) (by omega)
          simpa [Nat.add_assoc, Nat.add_comm 1 j] using this
      simp [Frame.bytes?, h0, hrest]

/-- Two bytes in little-endian order are the concatenation with the higher offset in the high bits (R12, R42). -/
theorem ofNat_littleEndian_two (lo hi : Byte) : BitVec.ofNat (8 * 2) (littleEndian [lo, hi]) = hi ++ lo := by
  apply BitVec.eq_of_toNat_eq
  have := lo.isLt; have := hi.isLt
  rw [BitVec.toNat_ofNat, BitVec.toNat_append, ← Nat.shiftLeft_add_eq_or_of_lt lo.isLt, Nat.shiftLeft_eq]
  simp [littleEndian]; omega

/-- `MemRead(a, 2) = {F[a+1], F[a]}` (R12). -/
theorem Frame.memRead_two {f : Frame} {a : Nat} {lo hi : Byte} (hlo : f.byte? a = some lo)
    (hhi : f.byte? (a + 1) = some hi) : f.memRead a 2 = some (hi ++ lo) := by
  have h : f.bytes? a 2 = some [lo, hi] := by simp [Frame.bytes?, hlo, hhi]
  rw [Frame.memRead, h]
  exact congrArg some (ofNat_littleEndian_two lo hi)

/-- The covered bytes exist in a frame of at least CRC_LEN bytes. -/
theorem Frame.coveredBytes?_of_le {f : Frame} {n : Nat} (h : n ≤ f.length) : ∃ bs, f.coveredBytes? n = some bs :=
  Frame.bytes?_of_le (by omega)

/-- The stored checksum exists in a frame that reaches past it. -/
theorem Frame.storedChecksum?_of_le {f : Frame} {a : Nat} (h : a + 2 ≤ f.length) :
    ∃ lo hi, f.byte? a = some lo ∧ f.byte? (a + 1) = some hi ∧ f.storedChecksum? a = some (hi ++ lo) := by
  obtain ⟨lo, hlo⟩ := Option.isSome_iff_exists.mp ((f.byte?_isSome a).mpr (by omega))
  obtain ⟨hi, hhi⟩ := Option.isSome_iff_exists.mp ((f.byte?_isSome (a + 1)).mpr (by omega))
  exact ⟨lo, hi, hlo, hhi, Frame.memRead_two hlo hhi⟩

/-- The cells of a byte list are in canonical form, from the first offset on. -/
theorem Memory.ofBytes_wfFrom (bs : List Byte) : ∀ {k a : Nat}, k ≤ a → Memory.wfFrom k (Memory.ofBytes a bs) = true := by
  induction bs with
  | nil => intro k a _; rfl
  | cons b bs ih =>
    intro k a h
    unfold Memory.ofBytes
    split
    · exact ih (by omega)
    · simp_all [Memory.wfFrom]

/-- The cells of a byte list lie inside it. -/
theorem Memory.ofBytes_offsets (bs : List Byte) : ∀ {a : Nat} {c : Host.Cell}, c ∈ Memory.ofBytes a bs →
    a ≤ c.1 ∧ c.1 < a + bs.length := by
  induction bs with
  | nil => intro a c h; simp [Memory.ofBytes] at h
  | cons b bs ih =>
    intro a c h
    unfold Memory.ofBytes at h
    split at h
    · have := ih h; simp; omega
    · rcases List.mem_cons.mp h with rfl | h
      · simp
      · have := ih h; simp; omega

/-- The frame of a byte list is in canonical form: the one operation that makes a frame keeps it. -/
theorem Frame.ofBytes_wf (bs : List Byte) : (Frame.ofBytes bs).wf = true := by
  have h1 : Memory.wf (Memory.ofBytes 0 bs) = true := Memory.ofBytes_wfFrom bs (Nat.le_refl 0)
  have h2 : ∀ c ∈ Memory.ofBytes 0 bs, c.1 < bs.length := fun c hc => by have := Memory.ofBytes_offsets bs hc; omega
  simp only [Frame.wf, Frame.ofBytes, h1, Bool.true_and, List.all_eq_true]
  exact fun c hc => decide_eq_true (h2 c hc)

/-- The empty frame is in canonical form. -/
theorem Frame.empty_wf : Frame.empty.wf = true := rfl

/-- An offset below every listed one holds the unlisted byte. -/
theorem Memory.read_of_lt (m : Memory) : ∀ {k a : Nat}, Memory.wfFrom k m = true → a < k → m.read a = unlistedByte := by
  induction m with
  | nil => intros; rfl
  | cons c m ih =>
    obtain ⟨x, b⟩ := c
    intro k a h ha
    simp only [Memory.wfFrom, Bool.and_eq_true, decide_eq_true_eq] at h
    rw [Memory.read, if_neg (by omega)]
    exact ih h.2 (by omega)

/-- The byte read from the cells of a byte list. -/
theorem Memory.read_ofBytes (bs : List Byte) : ∀ (a j : Nat) (h : j < bs.length),
    (Memory.ofBytes a bs).read (a + j) = bs[j] := by
  induction bs with
  | nil => intro a j h; simp at h
  | cons b bs ih =>
    intro a j h
    unfold Memory.ofBytes
    cases j with
    | zero =>
      split
      · next hb =>
          rw [Nat.add_zero, Memory.read_of_lt _ (Memory.ofBytes_wfFrom bs (Nat.le_refl (a + 1))) (by omega)]
          exact hb.symm
      · simp [Memory.read]
    | succ j =>
      have hj : j < bs.length := by simpa using h
      have hread := ih (a + 1) j hj
      rw [show a + 1 + j = a + (j + 1) by omega] at hread
      split
      · simpa using hread
      · rw [Memory.read, if_neg (by omega)]; simpa using hread

/-- The frame of a byte list holds exactly those bytes. -/
theorem Frame.byte?_ofBytes (bs : List Byte) (a : Nat) : (Frame.ofBytes bs).byte? a = bs[a]? := by
  unfold Frame.byte? Frame.ofBytes
  by_cases h : a < bs.length
  · have := Memory.read_ofBytes bs 0 a h
    simp only [Nat.zero_add] at this
    simp [h, this]
  · simp [h]

end Sys2Proof.Machine
end

