-- ==== Sys2Proof/Laws/State.lean ====
section
/-! SUPPORT. One lemma per field and per named update of State, each true by unfolding the update once. -/

namespace Sys2Proof.Machine

/-! ### `respond`: a command ends with a response word -/

@[simp] theorem State.respond_cfg (s : State) (w : Word) : (s.respond w).cfg = s.cfg := rfl
@[simp] theorem State.respond_crc (s : State) (w : Word) : (s.respond w).crc = s.crc := rfl
@[simp] theorem State.respond_expect (s : State) (w : Word) : (s.respond w).expect = s.expect := rfl
@[simp] theorem State.respond_count (s : State) (w : Word) : (s.respond w).count = s.count := rfl
@[simp] theorem State.respond_overrun (s : State) (w : Word) : (s.respond w).overrun = s.overrun := rfl
@[simp] theorem State.respond_verdict (s : State) (w : Word) : (s.respond w).verdict = s.verdict := rfl
@[simp] theorem State.respond_err (s : State) (w : Word) : (s.respond w).err = s.err := rfl
@[simp] theorem State.respond_inputs (s : State) (w : Word) : (s.respond w).inputs = s.inputs.tail := rfl
@[simp] theorem State.respond_responses (s : State) (w : Word) : (s.respond w).responses = s.responses ++ [w] := rfl
@[simp] theorem State.respond_done (s : State) (w : Word) : (s.respond w).done = s.done := rfl
@[simp] theorem State.respond_statusWord (s : State) (w : Word) : (s.respond w).statusWord = s.statusWord := rfl

/-! ### `respondStatus`: a command ends with the STATUS word -/

@[simp] theorem State.respondStatus_cfg (s : State) : (s.respondStatus).cfg = s.cfg := rfl
@[simp] theorem State.respondStatus_crc (s : State) : (s.respondStatus).crc = s.crc := rfl
@[simp] theorem State.respondStatus_expect (s : State) : (s.respondStatus).expect = s.expect := rfl
@[simp] theorem State.respondStatus_count (s : State) : (s.respondStatus).count = s.count := rfl
@[simp] theorem State.respondStatus_overrun (s : State) : (s.respondStatus).overrun = s.overrun := rfl
@[simp] theorem State.respondStatus_verdict (s : State) : (s.respondStatus).verdict = s.verdict := rfl
@[simp] theorem State.respondStatus_err (s : State) : (s.respondStatus).err = s.err := rfl
@[simp] theorem State.respondStatus_inputs (s : State) : (s.respondStatus).inputs = s.inputs.tail := rfl
@[simp] theorem State.respondStatus_responses (s : State) : (s.respondStatus).responses = s.responses ++ [s.statusWord] := rfl
@[simp] theorem State.respondStatus_done (s : State) : s.respondStatus.done = s.done := rfl
@[simp] theorem State.respondStatus_statusWord (s : State) : s.respondStatus.statusWord = s.statusWord := rfl

/-! ### `startChecksum`: INIT's writes -/

@[simp] theorem State.startChecksum_cfg (s : State) : (s.startChecksum).cfg = s.cfg := rfl
@[simp] theorem State.startChecksum_crc (s : State) : (s.startChecksum).crc = s.cfg.crcInit := rfl
@[simp] theorem State.startChecksum_expect (s : State) : (s.startChecksum).expect = s.expect := rfl
@[simp] theorem State.startChecksum_count (s : State) : (s.startChecksum).count = 0#9 := rfl
@[simp] theorem State.startChecksum_overrun (s : State) : (s.startChecksum).overrun = false := rfl
@[simp] theorem State.startChecksum_verdict (s : State) : (s.startChecksum).verdict = .noVerdict := rfl
@[simp] theorem State.startChecksum_err (s : State) : (s.startChecksum).err = .noError := rfl
@[simp] theorem State.startChecksum_inputs (s : State) : (s.startChecksum).inputs = s.inputs := rfl
@[simp] theorem State.startChecksum_responses (s : State) : (s.startChecksum).responses = s.responses := rfl

/-! ### `consumeByte`: a byte is consumed -/

@[simp] theorem State.consumeByte_cfg (s : State) (b : Byte) : (s.consumeByte b).cfg = s.cfg := rfl
@[simp] theorem State.consumeByte_crc (s : State) (b : Byte) : (s.consumeByte b).crc = crcStep s.cfg.polyR s.crc b := rfl
@[simp] theorem State.consumeByte_expect (s : State) (b : Byte) : (s.consumeByte b).expect = s.expect := rfl
@[simp] theorem State.consumeByte_count (s : State) (b : Byte) : (s.consumeByte b).count = s.count + 1#9 := rfl
@[simp] theorem State.consumeByte_overrun (s : State) (b : Byte) : (s.consumeByte b).overrun = s.overrun := rfl
@[simp] theorem State.consumeByte_verdict (s : State) (b : Byte) : (s.consumeByte b).verdict = .noVerdict := rfl
@[simp] theorem State.consumeByte_err (s : State) (b : Byte) : (s.consumeByte b).err = s.err := rfl
@[simp] theorem State.consumeByte_inputs (s : State) (b : Byte) : (s.consumeByte b).inputs = s.inputs := rfl
@[simp] theorem State.consumeByte_responses (s : State) (b : Byte) : (s.consumeByte b).responses = s.responses := rfl

/-! ### `discardByte`: a byte is discarded -/

@[simp] theorem State.discardByte_cfg (s : State) : (s.discardByte).cfg = s.cfg := rfl
@[simp] theorem State.discardByte_crc (s : State) : (s.discardByte).crc = s.crc := rfl
@[simp] theorem State.discardByte_expect (s : State) : (s.discardByte).expect = s.expect := rfl
@[simp] theorem State.discardByte_count (s : State) : (s.discardByte).count = s.count := rfl
@[simp] theorem State.discardByte_overrun (s : State) : (s.discardByte).overrun = true := rfl
@[simp] theorem State.discardByte_verdict (s : State) : (s.discardByte).verdict = s.verdict := rfl
@[simp] theorem State.discardByte_err (s : State) : (s.discardByte).err = s.err := rfl
@[simp] theorem State.discardByte_inputs (s : State) : (s.discardByte).inputs = s.inputs := rfl
@[simp] theorem State.discardByte_responses (s : State) : (s.discardByte).responses = s.responses := rfl

/-! ### `loadExpected`: LOADEXP's writes -/

@[simp] theorem State.loadExpected_cfg (s : State) (h : Half) : (s.loadExpected h).cfg = s.cfg := rfl
@[simp] theorem State.loadExpected_crc (s : State) (h : Half) : (s.loadExpected h).crc = s.crc := rfl
@[simp] theorem State.loadExpected_expect (s : State) (h : Half) : (s.loadExpected h).expect = h := rfl
@[simp] theorem State.loadExpected_count (s : State) (h : Half) : (s.loadExpected h).count = s.count := rfl
@[simp] theorem State.loadExpected_overrun (s : State) (h : Half) : (s.loadExpected h).overrun = s.overrun := rfl
@[simp] theorem State.loadExpected_verdict (s : State) (h : Half) : (s.loadExpected h).verdict = .noVerdict := rfl
@[simp] theorem State.loadExpected_err (s : State) (h : Half) : (s.loadExpected h).err = s.err := rfl
@[simp] theorem State.loadExpected_inputs (s : State) (h : Half) : (s.loadExpected h).inputs = s.inputs := rfl
@[simp] theorem State.loadExpected_responses (s : State) (h : Half) : (s.loadExpected h).responses = s.responses := rfl

/-! ### `judge`: the comparison -/

@[simp] theorem State.judge_cfg (s : State) : (s.judge).cfg = s.cfg := rfl
@[simp] theorem State.judge_crc (s : State) : (s.judge).crc = s.crc := rfl
@[simp] theorem State.judge_expect (s : State) : (s.judge).expect = s.expect := rfl
@[simp] theorem State.judge_count (s : State) : (s.judge).count = s.count := rfl
@[simp] theorem State.judge_overrun (s : State) : (s.judge).overrun = s.overrun := rfl
@[simp] theorem State.judge_verdict (s : State) : (s.judge).verdict = compareVerdict s.crc s.expect := rfl
@[simp] theorem State.judge_err (s : State) : (s.judge).err = s.err := rfl
@[simp] theorem State.judge_inputs (s : State) : (s.judge).inputs = s.inputs := rfl
@[simp] theorem State.judge_responses (s : State) : (s.judge).responses = s.responses := rfl

/-! ### `raise`: an error is recorded -/

@[simp] theorem State.raise_cfg (s : State) (e : CommandError) : (s.raise e).cfg = s.cfg := rfl
@[simp] theorem State.raise_crc (s : State) (e : CommandError) : (s.raise e).crc = s.crc := rfl
@[simp] theorem State.raise_expect (s : State) (e : CommandError) : (s.raise e).expect = s.expect := rfl
@[simp] theorem State.raise_count (s : State) (e : CommandError) : (s.raise e).count = s.count := rfl
@[simp] theorem State.raise_overrun (s : State) (e : CommandError) : (s.raise e).overrun = s.overrun := rfl
@[simp] theorem State.raise_verdict (s : State) (e : CommandError) : (s.raise e).verdict = s.verdict := rfl
@[simp] theorem State.raise_err (s : State) (e : CommandError) : (s.raise e).err = firstError s.err e := rfl
@[simp] theorem State.raise_inputs (s : State) (e : CommandError) : (s.raise e).inputs = s.inputs := rfl
@[simp] theorem State.raise_responses (s : State) (e : CommandError) : (s.raise e).responses = s.responses := rfl

/-! ### `markTruncated`: the length gate fails -/

@[simp] theorem State.markTruncated_cfg (s : State) : (s.markTruncated).cfg = s.cfg := rfl
@[simp] theorem State.markTruncated_crc (s : State) : (s.markTruncated).crc = s.crc := rfl
@[simp] theorem State.markTruncated_expect (s : State) : (s.markTruncated).expect = s.expect := rfl
@[simp] theorem State.markTruncated_count (s : State) : (s.markTruncated).count = s.count := rfl
@[simp] theorem State.markTruncated_overrun (s : State) : (s.markTruncated).overrun = s.overrun := rfl
@[simp] theorem State.markTruncated_verdict (s : State) : (s.markTruncated).verdict = .truncated := rfl
@[simp] theorem State.markTruncated_err (s : State) : (s.markTruncated).err = s.err := rfl
@[simp] theorem State.markTruncated_inputs (s : State) : (s.markTruncated).inputs = s.inputs := rfl
@[simp] theorem State.markTruncated_responses (s : State) : (s.markTruncated).responses = s.responses := rfl

/-! ### `loadFrame`: the frame is taken in -/

@[simp] theorem State.loadFrame_cfg (s : State) (bs : List Byte) (h : Half) : (s.loadFrame bs h).cfg = s.cfg := rfl
@[simp] theorem State.loadFrame_crc (s : State) (bs : List Byte) (h : Half) : (s.loadFrame bs h).crc = crcFold s.cfg.polyR s.crc bs := rfl
@[simp] theorem State.loadFrame_expect (s : State) (bs : List Byte) (h : Half) : (s.loadFrame bs h).expect = h := rfl
@[simp] theorem State.loadFrame_count (s : State) (bs : List Byte) (h : Half) : (s.loadFrame bs h).count = s.cfg.fullCount := rfl
@[simp] theorem State.loadFrame_overrun (s : State) (bs : List Byte) (h : Half) : (s.loadFrame bs h).overrun = s.overrun := rfl
@[simp] theorem State.loadFrame_verdict (s : State) (bs : List Byte) (h : Half) : (s.loadFrame bs h).verdict = compareVerdict (crcFold s.cfg.polyR s.crc bs) h := rfl
@[simp] theorem State.loadFrame_err (s : State) (bs : List Byte) (h : Half) : (s.loadFrame bs h).err = s.err := rfl
@[simp] theorem State.loadFrame_inputs (s : State) (bs : List Byte) (h : Half) : (s.loadFrame bs h).inputs = s.inputs := rfl
@[simp] theorem State.loadFrame_responses (s : State) (bs : List Byte) (h : Half) : (s.loadFrame bs h).responses = s.responses := rfl

/-! ### `resetInput`: the reset input -/

@[simp] theorem State.resetInput_cfg (s : State) : (s.resetInput).cfg = s.cfg := rfl
@[simp] theorem State.resetInput_crc (s : State) : (s.resetInput).crc = s.cfg.crcInit := rfl
@[simp] theorem State.resetInput_expect (s : State) : (s.resetInput).expect = 0x0000#16 := rfl
@[simp] theorem State.resetInput_count (s : State) : (s.resetInput).count = 0#9 := rfl
@[simp] theorem State.resetInput_overrun (s : State) : (s.resetInput).overrun = false := rfl
@[simp] theorem State.resetInput_verdict (s : State) : (s.resetInput).verdict = .noVerdict := rfl
@[simp] theorem State.resetInput_err (s : State) : (s.resetInput).err = .noError := rfl
@[simp] theorem State.resetInput_inputs (s : State) : (s.resetInput).inputs = s.inputs.tail := rfl
@[simp] theorem State.resetInput_responses (s : State) : (s.resetInput).responses = s.responses := rfl

/-! ### the branching updates: the fields no branch writes -/

@[simp] theorem State.feedByte_cfg (s : State) (b : Byte) : (s.feedByte b).cfg = s.cfg := by
  unfold State.feedByte; split <;> rfl
@[simp] theorem State.feedByte_expect (s : State) (b : Byte) : (s.feedByte b).expect = s.expect := by
  unfold State.feedByte; split <;> rfl
@[simp] theorem State.feedByte_err (s : State) (b : Byte) : (s.feedByte b).err = s.err := by
  unfold State.feedByte; split <;> rfl
@[simp] theorem State.feedByte_inputs (s : State) (b : Byte) : (s.feedByte b).inputs = s.inputs := by
  unfold State.feedByte; split <;> rfl
@[simp] theorem State.feedByte_responses (s : State) (b : Byte) : (s.feedByte b).responses = s.responses := by
  unfold State.feedByte; split <;> rfl
@[simp] theorem State.checkChecksum_cfg (s : State) : (s.checkChecksum).cfg = s.cfg := by
  unfold State.checkChecksum; split <;> rfl
@[simp] theorem State.checkChecksum_crc (s : State) : (s.checkChecksum).crc = s.crc := by
  unfold State.checkChecksum; split <;> rfl
@[simp] theorem State.checkChecksum_expect (s : State) : (s.checkChecksum).expect = s.expect := by
  unfold State.checkChecksum; split <;> rfl
@[simp] theorem State.checkChecksum_count (s : State) : (s.checkChecksum).count = s.count := by
  unfold State.checkChecksum; split <;> rfl
@[simp] theorem State.checkChecksum_overrun (s : State) : (s.checkChecksum).overrun = s.overrun := by
  unfold State.checkChecksum; split <;> rfl
@[simp] theorem State.checkChecksum_inputs (s : State) : (s.checkChecksum).inputs = s.inputs := by
  unfold State.checkChecksum; split <;> rfl
@[simp] theorem State.checkChecksum_responses (s : State) : (s.checkChecksum).responses = s.responses := by
  unfold State.checkChecksum; split <;> rfl

/-! ### what the host does at the ports, and the state after reset -/

@[simp] theorem State.presentWord_cfg (s : State) (w : Word) : (s.presentWord w).cfg = s.cfg := by
  unfold State.presentWord; split <;> rfl
@[simp] theorem State.presentWord_crc (s : State) (w : Word) : (s.presentWord w).crc = s.crc := by
  unfold State.presentWord; split <;> rfl
@[simp] theorem State.presentWord_expect (s : State) (w : Word) : (s.presentWord w).expect = s.expect := by
  unfold State.presentWord; split <;> rfl
@[simp] theorem State.presentWord_count (s : State) (w : Word) : (s.presentWord w).count = s.count := by
  unfold State.presentWord; split <;> rfl
@[simp] theorem State.presentWord_overrun (s : State) (w : Word) : (s.presentWord w).overrun = s.overrun := by
  unfold State.presentWord; split <;> rfl
@[simp] theorem State.presentWord_verdict (s : State) (w : Word) : (s.presentWord w).verdict = s.verdict := by
  unfold State.presentWord; split <;> rfl
@[simp] theorem State.presentWord_err (s : State) (w : Word) : (s.presentWord w).err = s.err := by
  unfold State.presentWord; split <;> rfl
@[simp] theorem State.presentWord_responses (s : State) (w : Word) : (s.presentWord w).responses = s.responses := by
  unfold State.presentWord; split <;> rfl
@[simp] theorem State.offerProgram_cfg (s : State) (p : List (Word × Frame)) : (s.offerProgram p).cfg = s.cfg := rfl
@[simp] theorem State.offerProgram_crc (s : State) (p : List (Word × Frame)) : (s.offerProgram p).crc = s.crc := rfl
@[simp] theorem State.offerProgram_expect (s : State) (p : List (Word × Frame)) : (s.offerProgram p).expect = s.expect := rfl
@[simp] theorem State.offerProgram_count (s : State) (p : List (Word × Frame)) : (s.offerProgram p).count = s.count := rfl
@[simp] theorem State.offerProgram_overrun (s : State) (p : List (Word × Frame)) : (s.offerProgram p).overrun = s.overrun := rfl
@[simp] theorem State.offerProgram_verdict (s : State) (p : List (Word × Frame)) : (s.offerProgram p).verdict = s.verdict := rfl
@[simp] theorem State.offerProgram_err (s : State) (p : List (Word × Frame)) : (s.offerProgram p).err = s.err := rfl
@[simp] theorem State.offerProgram_responses (s : State) (p : List (Word × Frame)) : (s.offerProgram p).responses = s.responses := rfl
@[simp] theorem State.resetWith_cfg (c : Config) : (State.resetWith c).cfg = c := rfl
@[simp] theorem State.resetWith_crc (c : Config) : (State.resetWith c).crc = c.crcInit := rfl
@[simp] theorem State.resetWith_expect (c : Config) : (State.resetWith c).expect = 0x0000#16 := rfl
@[simp] theorem State.resetWith_count (c : Config) : (State.resetWith c).count = 0#9 := rfl
@[simp] theorem State.resetWith_overrun (c : Config) : (State.resetWith c).overrun = false := rfl
@[simp] theorem State.resetWith_verdict (c : Config) : (State.resetWith c).verdict = .noVerdict := rfl
@[simp] theorem State.resetWith_err (c : Config) : (State.resetWith c).err = .noError := rfl
@[simp] theorem State.resetWith_inputs (c : Config) : (State.resetWith c).inputs = [] := rfl
@[simp] theorem State.resetWith_responses (c : Config) : (State.resetWith c).responses = [] := rfl

/-- The word presented is the one on the command port. -/
theorem State.presentWord_inputs_head (s : State) (w : Word) :
    ∃ f rest, (s.presentWord w).inputs = .command w f :: rest := by
  unfold State.presentWord
  split
  · exact ⟨_, _, rfl⟩
  · exact ⟨_, _, rfl⟩

/-- Waiting changes nothing. -/
@[simp] theorem State.waitForCommand_eq (s : State) : s.waitForCommand = s := rfl

end Sys2Proof.Machine
end

