-- ==== Sys2Proof/Laws/Ops.lean ====
section
/-! SUPPORT. What the branching shared operations can do, each said once. -/

namespace Sys2Proof.Machine

/-- A FEED below CRC_LEN consumes its byte. -/
theorem State.feedByte_of_lt {s : State} (b : Byte) (h : s.count.toNat < s.cfg.crcLen) :
    s.feedByte b = s.consumeByte b := if_pos h

/-- A FEED at CRC_LEN discards its byte. -/
theorem State.feedByte_of_full {s : State} (b : Byte) (h : ¬ s.count.toNat < s.cfg.crcLen) :
    s.feedByte b = s.discardByte := if_neg h

/-- A CHECK at CRC_LEN compares. -/
theorem State.checkChecksum_of_done {s : State} (h : s.done = true) : s.checkChecksum = s.judge := if_pos h

/-- A CHECK below CRC_LEN raises INCOMPLETE. -/
theorem State.checkChecksum_of_not_done {s : State} (h : s.done = false) :
    s.checkChecksum = s.raise .incomplete := by
  simp [State.checkChecksum, h]

/-- DONE is COUNT at CRC_LEN (R29). -/
theorem State.done_iff (s : State) : s.done = true ↔ s.count.toNat = s.cfg.crcLen := by simp [State.done]

/-- A byte consumed adds exactly 1 to COUNT in an admitted configuration: the 9 bits do not wrap (R22, R87). -/
theorem State.count_succ {s : State} (hc : s.cfg.Admitted) (h : s.count.toNat < s.cfg.crcLen) :
    (s.count + 1#9).toNat = s.count.toNat + 1 := by
  have := hc.crcLen_lt
  rw [BitVec.toNat_add]
  simp only [BitVec.toNat_ofNat]
  omega

/-- A recorded error is kept. -/
theorem firstError_of_ne {old : CommandError} (new : CommandError) (h : old ≠ .noError) :
    firstError old new = old := by
  cases old <;> simp_all [firstError]

/-- With no error recorded the new one is. -/
@[simp] theorem firstError_noError (new : CommandError) : firstError .noError new = new := rfl

/-- The comparison accepts equal values only. -/
@[simp] theorem compareVerdict_eq_accepted (c e : Half) : compareVerdict c e = .accepted ↔ c = e := by
  unfold compareVerdict; split <;> simp_all

/-- The comparison reports a mismatch for different values only. -/
@[simp] theorem compareVerdict_eq_mismatch (c e : Half) : compareVerdict c e = .mismatch ↔ c ≠ e := by
  unfold compareVerdict; split <;> simp_all

/-- The comparison always gives a verdict, and never TRUNCATED. -/
theorem compareVerdict_cases (c e : Half) : compareVerdict c e = .accepted ∨ compareVerdict c e = .mismatch := by
  unfold compareVerdict; split <;> simp

/-- The frame port holds the frame of the first event. -/
@[simp] theorem State.framePort_cons (s : State) (e : HostEvent) (rest : List HostEvent)
    (h : s.inputs = e :: rest) : s.framePort = e.frame := by simp [State.framePort, h]

end Sys2Proof.Machine
end

