-- ==== Sys2Proof/Laws/PerInstr.lean ====
section
/-! SUPPORT. The statement made of every command as syntax, one lemma per constructor. -/

namespace Sys2Proof.Laws.OneOpcodeRow

/-- The word of a command matches a row of the opcode map that bears its mnemonic (R67). -/
def Statement (i : Instr) : Prop :=
  ∃ r ∈ opcodeMap, r.mnemonic = i.mnemonic ∧ rowMatches (encode i) r = true

theorem nop : Statement .nop := by unfold Statement; decide

theorem init : Statement .init := by unfold Statement; decide

theorem feed (b : Byte) : Statement (.feed b) := by
  refine ⟨{ mnemonic := "FEED", matchBits := 0x02000000#32, maskBits := 0xFFFFFF00#32 }, by decide, rfl, ?_⟩
  simp only [rowMatches, encode, encodeFormatB, BitVec.and_comm _ (0xFFFFFF00#32), BitVec.and_or_distrib_left]
  rw [BitVec.and_comm (0xFFFFFF00#32) (b.setWidth 32), byte_and_feedMask]
  decide

theorem loadexp (v : Half) : Statement (.loadexp v) := by
  refine ⟨{ mnemonic := "LOADEXP", matchBits := 0x03000000#32, maskBits := 0xFFFF0000#32 }, by decide, rfl, ?_⟩
  simp only [rowMatches, encode, encodeFormatH, BitVec.and_comm _ (0xFFFF0000#32), BitVec.and_or_distrib_left]
  rw [BitVec.and_comm (0xFFFF0000#32) (v.setWidth 32), half_and_loadexpMask]
  decide

theorem check : Statement .check := by unfold Statement; decide

theorem readcrc : Statement .readcrc := by unfold Statement; decide

theorem readstatus : Statement .readstatus := by unfold Statement; decide

theorem validate : Statement .validate := by unfold Statement; decide

end Sys2Proof.Laws.OneOpcodeRow
end

