-- ==== Sys2Proof/Laws/Step.lean ====
section
/-! SUPPORT. What a command and a step can do, each said once. -/

namespace Sys2Proof.Machine

/-- VALIDATE of a short frame (R121). -/
theorem execValidate_of_short {s : State} (h : s.framePort.length < s.cfg.headerFixedSize) :
    execValidate s = .next s.startChecksum.markTruncated.respondStatus := if_pos h

/-- VALIDATE of a frame that passes the length gate, in an admitted configuration (R124). -/
theorem execValidate_of_long {s : State} (hcfg : s.cfg.Admitted)
    (h : ¬ s.framePort.length < s.cfg.headerFixedSize) :
    ∃ covered stored, s.framePort.coveredBytes? s.cfg.crcLen = some covered ∧
      s.framePort.storedChecksum? s.cfg.crcOffset = some stored ∧
      execValidate s = .next (s.startChecksum.loadFrame covered stored).respondStatus := by
  have h1 := hcfg.crcLen_le
  have h2 := hcfg.crcOffset_le
  obtain ⟨covered, hcov⟩ := Frame.coveredBytes?_of_le (f := s.framePort) (n := s.cfg.crcLen) (by omega)
  obtain ⟨lo, hi, -, -, hst⟩ := Frame.storedChecksum?_of_le (f := s.framePort) (a := s.cfg.crcOffset) (by omega)
  exact ⟨covered, hi ++ lo, hcov, hst, by simp [execValidate, h, hcov, hst]⟩

/-- A command that completes is some writes to the registers, then one response: which writes, for which command. -/
theorem exec_next_cases {i : Instr} {s t : State} (h : exec i s = .next t) :
    (i = .nop ∧ t = s.respondStatus) ∨ (i = .init ∧ t = s.startChecksum.respondStatus) ∨
    (∃ b, i = .feed b ∧ t = (s.feedByte b).respondStatus) ∨
    (∃ v, i = .loadexp v ∧ t = (s.loadExpected v).respondStatus) ∨
    (i = .check ∧ t = s.checkChecksum.respondStatus) ∨ (i = .readcrc ∧ t = s.respond (zext32 s.crc)) ∨
    (i = .readstatus ∧ t = s.respondStatus) ∨
    (i = .validate ∧ s.framePort.length < s.cfg.headerFixedSize ∧
      t = s.startChecksum.markTruncated.respondStatus) ∨
    (∃ covered stored, i = .validate ∧ ¬ s.framePort.length < s.cfg.headerFixedSize ∧
      s.framePort.coveredBytes? s.cfg.crcLen = some covered ∧ s.framePort.storedChecksum? s.cfg.crcOffset = some stored ∧
      t = (s.startChecksum.loadFrame covered stored).respondStatus) := by
  cases i with
  | nop => obtain rfl : s.respondStatus = t := by simpa [exec, execNop] using h
           simp
  | init => obtain rfl : s.startChecksum.respondStatus = t := by simpa [exec, execInit] using h
            simp
  | feed b => obtain rfl : (s.feedByte b).respondStatus = t := by simpa [exec, execFeed] using h
              simp
  | loadexp v => obtain rfl : (s.loadExpected v).respondStatus = t := by simpa [exec, execLoadexp] using h
                 simp
  | check => obtain rfl : s.checkChecksum.respondStatus = t := by simpa [exec, execCheck] using h
             simp
  | readcrc => obtain rfl : s.respond (zext32 s.crc) = t := by simpa [exec, execReadcrc] using h
               simp
  | readstatus => obtain rfl : s.respondStatus = t := by simpa [exec, execReadstatus] using h
                  simp
  | validate =>
    simp only [exec, execValidate] at h
    split at h
    · next hlt => obtain rfl : s.startChecksum.markTruncated.respondStatus = t := by simpa using h
                  simp [hlt]
    · next hlt =>
        split at h
        · next covered stored hc hs =>
            obtain rfl : (s.startChecksum.loadFrame covered stored).respondStatus = t := by simpa using h
            simp [hlt, hc, hs]
        · simp at h

/-- A step with nothing on the ports (R172). -/
theorem step_of_idle {s : State} (hcfg : s.cfg.Admitted) (h : s.inputs = []) : step s = .next s := by
  rw [step, if_pos hcfg, h]; rfl

/-- A step with the reset input on the ports (R170). -/
theorem step_of_reset {s : State} {rest : List HostEvent} (hcfg : s.cfg.Admitted) (h : s.inputs = .reset :: rest) :
    step s = .next s.resetInput := by
  rw [step, if_pos hcfg, h]

/-- A step with a word on the command port runs that word (R60). -/
theorem step_of_command {s : State} {w : Word} {f : Frame} {rest : List HostEvent} (hcfg : s.cfg.Admitted)
    (h : s.inputs = .command w f :: rest) : step s = runCommand w s := by
  rw [step, if_pos hcfg, h]

/-- A legal word runs the command it decodes to. -/
theorem runCommand_of_ok {s : State} {w : Word} {i : Instr} (h : decode w = .ok i) : runCommand w s = exec i s := by
  rw [runCommand, h]

/-- An illegal word has the effect of R143. -/
theorem runCommand_of_error {s : State} {w : Word} {e : IllegalWord} (h : decode w = .error e) :
    runCommand w s = .next s.illegalWord := by
  rw [runCommand, h]

/-- A step that goes on does one of four things, in an admitted configuration only. -/
theorem step_next_cases {s t : State} (h : step s = .next t) :
    s.cfg.Admitted ∧
    ((s.inputs = [] ∧ t = s) ∨ (∃ rest, s.inputs = .reset :: rest ∧ t = s.resetInput) ∨
     (∃ w f rest i, s.inputs = .command w f :: rest ∧ decode w = .ok i ∧ exec i s = .next t) ∨
     (∃ w f rest e, s.inputs = .command w f :: rest ∧ decode w = .error e ∧ t = s.illegalWord)) := by
  unfold step at h
  split at h
  · next hcfg =>
      refine ⟨hcfg, ?_⟩
      split at h
      · next hin => exact .inl ⟨hin, by simpa using h.symm⟩
      · next rest hin => exact .inr (.inl ⟨rest, hin, by simpa using h.symm⟩)
      · next w f rest hin =>
          unfold runCommand at h
          split at h
          · next i hi => exact .inr (.inr (.inl ⟨w, f, rest, i, hin, hi, h⟩))
          · next e he => exact .inr (.inr (.inr ⟨w, f, rest, e, hin, he, by simpa using h.symm⟩))
  · simp at h

end Sys2Proof.Machine
end

