-- ==== Sys2Proof/Tests/Slice0.lean ====
section
/-! SUPPORT. Tests whose expected values come from spec/95_test_vectors.md or from the encodings of spec/30_encoding.md, and witnesses that the hypotheses of the statements can be met. -/

namespace Sys2Proof.Tests

open Sys2Proof.Machine

/-! ### Helpers -/

/-- The state of one command served from `s`, the word and the frame on the ports. -/
def serve (s : State) (w : Word) (f : Frame) : Option State :=
  nextState? (step { s with inputs := [.command w f] })

/-- The last response word of an outcome's state. -/
def lastResponse (t : Option State) : Option Word := t.bind fun u => u.responses.getLast?

/-- A state with CRC_LEN bytes consumed, the given CRC and EXPECT. -/
def fullState (crc expect : Half) : State :=
  { State.reset with crc := crc, expect := expect, count := 350#9 }

/-- The frame Z of 95 section 2.6: 512 bytes of 0, but the bytes at offsets 350 and 351 as given (not 0). -/
def frameZ (lo hi : Byte) : Frame := { length := 512, cells := [(350, lo), (351, hi)] }

/-- A frame of `n` zero bytes. -/
def zeroFrame (n : Nat) : Frame := { length := n, cells := [] }

/-- The state with a VALIDATE and its frame on the ports. -/
def offering (f : Frame) : State := { State.reset with inputs := [.command 0x07000000#32 f] }

/-! ### The checks refuse ill-formed lines -/

theorem test_wf_refuses_imm8 : (AsmLine.feed 256).wf = false := by decide

theorem test_wf_refuses_imm16 : (AsmLine.loadexp 65536).wf = false ∧ (AsmLine.verify 65536).wf = false := by decide

theorem test_wf_refuses_imm32 : (AsmLine.word 4294967296).wf = false := by decide

theorem test_wf_refuses_feeds : (AsmLine.feeds [1, 256]).wf = false ∧ (AsmLine.feeds []).wf = false := by decide

theorem test_wf_accepts_limits : (AsmLine.feed 255).wf = true ∧ (AsmLine.loadexp 65535).wf = true ∧
    (AsmLine.word 4294967295).wf = true ∧ (AsmLine.feeds [0, 255]).wf = true := by decide

theorem test_instr_wf : (Instr.feed 0xFF#8).wf = true ∧ Instr.validate.wf = true := by decide

theorem test_frame_wf_refuses : Frame.wf { length := 2, cells := [(1, 0x00#8)] } = false ∧
    Frame.wf { length := 2, cells := [(2, 0x01#8)] } = false ∧
    Frame.wf { length := 2, cells := [(1, 0x01#8), (0, 0x01#8)] } = false := by decide

/-! ### Decoding: words written out from R63 to R67 -/

theorem test_decode_nop : decode 0b00000000000000000000000000000000#32 = .ok .nop := by decide

theorem test_decode_init : decode 0b00000001000000000000000000000000#32 = .ok .init := by decide

/-- BYTE is `10110001` in bits 7:0. -/
theorem test_decode_feed : decode 0b00000010000000000000000010110001#32 = .ok (.feed 0xB1#8) := by decide

/-- HALF is `0101110111101010` in bits 15:0. -/
theorem test_decode_loadexp : decode 0b00000011000000000101110111101010#32 = .ok (.loadexp 0x5DEA#16) := by decide

theorem test_decode_check : decode 0b00000100000000000000000000000000#32 = .ok .check := by decide

theorem test_decode_readcrc : decode 0b00000101000000000000000000000000#32 = .ok .readcrc := by decide

theorem test_decode_readstatus : decode 0b00000110000000000000000000000000#32 = .ok .readstatus := by decide

theorem test_decode_validate : decode 0b00000111000000000000000000000000#32 = .ok .validate := by decide

/-- V-I1 and V-I2. -/
theorem test_decode_unassigned : decode 0x08000000#32 = .error .unassignedOpcode ∧
    decode 0xFF000000#32 = .error .unassignedOpcode := by decide

/-- V-I3 to V-I9. -/
theorem test_decode_must_be_zero : decode 0x02000100#32 = .error .mustBeZeroBitSet ∧
    decode 0x03010000#32 = .error .mustBeZeroBitSet ∧ decode 0x01000001#32 = .error .mustBeZeroBitSet ∧
    decode 0x00000001#32 = .error .mustBeZeroBitSet ∧ decode 0x04800000#32 = .error .mustBeZeroBitSet ∧
    decode 0x07000001#32 = .error .mustBeZeroBitSet ∧ decode 0x05FFFFFF#32 = .error .mustBeZeroBitSet := by decide

theorem test_encode_words : encode (.feed 0x31#8) = 0x02000031#32 ∧ encode (.loadexp 0x5DEA#16) = 0x03005DEA#32 ∧
    encode .validate = 0x07000000#32 := by decide

theorem test_decodeTableWord : decodeTableWord 32 0x020000FF = some (.feed 0xFF#8) ∧
    decodeTableWord 32 0x02000100 = none := by decide

/-! ### The assembler (R71, R72) -/

theorem test_asm_feeds : assembleText "FEEDS 0x31, 50 ; two bytes".toList = some [0x02000031#32, 0x02000032#32] := by
  decide +kernel

theorem test_asm_program : assembleProgram "INIT\nVERIFY 0x5DEA\n.word 0x08000000".toList =
    some [0x01000000#32, 0x03005DEA#32, 0x04000000#32, 0x08000000#32] := by decide +kernel

/-- A hexadecimal letter in lower case is taken (log entry 13), a letter in a decimal number is not. -/
theorem test_asm_numbers : readNumber "0x5dEA".toList = some 24042 ∧ readNumber "16".toList = some 16 ∧
    readNumber "1A".toList = none ∧ readNumber "0x".toList = none ∧ readNumber "0xG".toList = none := by
  decide +kernel

theorem test_asm_refuses : assembleText "FEED 256".toList = none ∧ assembleText "feed 1".toList = none := by
  decide +kernel

/-! ### The table, the step function and the checksum (95 sections 2.1 to 2.3) -/

/-- V-T2 and V-T6. -/
theorem test_table : table 0x8408#16 0x01#8 = 0x1189#16 ∧ table 0xA001#16 0x01#8 = 0xC0C1#16 ∧
    table 0x8408#16 0xFF#8 = 0x0F78#16 ∧ table 0xA001#16 0xFF#8 = 0x4040#16 := by decide

/-- V-F4. -/
theorem test_crcStep : crcStep 0x8408#16 0x1234#16 0x56#8 = 0x4006#16 ∧
    crcStep 0xA001#16 0x1234#16 0x56#8 = 0xE993#16 := by decide

/-- V-D2 and V-D5. -/
theorem test_crc16_short : crc16 Config.spec [0x41#8] = 0x5C0A#16 ∧ crc16 Config.alternative [0x00#8, 0x00#8] = 0xB001#16 := by
  decide

/-- V-D7, both polynomials. -/
theorem test_crc16_zero_header : crc16 Config.spec (List.replicate 350 0x00#8) = 0x5DEA#16 ∧
    crc16 Config.alternative (List.replicate 350 0x00#8) = 0x1BCC#16 := by decide +kernel

/-- V-D9: ascending bytes, so the order counts. -/
theorem test_crc16_ascending : crc16 Config.spec ((List.range 350).map (BitVec.ofNat 8)) = 0x9C02#16 := by decide +kernel

/-! ### One step of each command -/

/-- V-C17. -/
theorem test_nop : lastResponse (serve State.reset 0x00000000#32 Frame.empty) = some 0x00000000#32 := by decide

/-- V-C6. -/
theorem test_init_clears : (serve { State.reset with err := .incomplete, count := 1#9, expect := 0x1234#16 }
    0x01000000#32 Frame.empty).map (fun t => (t.err, t.count, t.expect, t.statusWord)) =
    some (.noError, 0#9, 0x1234#16, 0x00000000#32) := by decide

/-- V-C2. -/
theorem test_feed_consumes : (serve State.reset 0x02000031#32 Frame.empty).map (fun t => (t.crc, t.statusWord)) =
    some (0x2F8D#16, 0x00010000#32) := by decide

/-- V-C5: a byte discarded after an ACCEPTED verdict. -/
theorem test_feed_discards : (serve { fullState 0x9C02#16 0x9C02#16 with verdict := .accepted } 0x02000000#32
    Frame.empty).map (fun t => (t.crc, t.statusWord)) = some (0x9C02#16, 0x015E0007#32) := by decide

/-- V-C7. -/
theorem test_loadexp : (serve (fullState 0x5DEA#16 0x0000#16) 0x03005DEA#32 Frame.empty).map
    (fun t => (t.expect, t.statusWord)) = some (0x5DEA#16, 0x015E0001#32) := by decide

/-- V-C8 and V-C9. -/
theorem test_check_judges :
    lastResponse (serve (fullState 0x5DEA#16 0x5DEA#16) 0x04000000#32 Frame.empty) = some 0x015E0005#32 ∧
    lastResponse (serve (fullState 0x5DEA#16 0x0000#16) 0x04000000#32 Frame.empty) = some 0x015E0009#32 := by decide

/-- V-C13: INCOMPLETE leaves TRUNCATED. -/
theorem test_check_incomplete : lastResponse (serve { State.reset with verdict := .truncated } 0x04000000#32
    Frame.empty) = some 0x0000002C#32 := by decide

/-- V-C14. -/
theorem test_readcrc : lastResponse (serve State.reset 0x05000000#32 Frame.empty) = some 0x0000FFFF#32 := by decide

/-- V-C16. -/
theorem test_readstatus : lastResponse (serve { State.reset with crc := 0x6F91#16, count := 9#9 } 0x06000000#32
    Frame.empty) = some 0x00090000#32 := by decide

/-- V-V6. -/
theorem test_validate_accepts : (serve State.reset 0x07000000#32 (frameZ 0xEA#8 0x5D#8)).map
    (fun t => (t.crc, t.expect, t.statusWord)) = some (0x5DEA#16, 0x5DEA#16, 0x015E0005#32) := by decide +kernel

/-- V-V3 (P5 step 4: EXPECT is kept) and V-V7 (the checksum stored big-endian). -/
theorem test_validate_rejects :
    (serve { State.reset with expect := 0x9C02#16 } 0x07000000#32 (zeroFrame 10)).map
      (fun t => (t.expect, t.statusWord)) = some (0x9C02#16, 0x0000000C#32) ∧
    (serve State.reset 0x07000000#32 (frameZ 0x5D#8 0xEA#8)).map
      (fun t => (t.expect, t.statusWord)) = some (0xEA5D#16, 0x015E0009#32) := by decide +kernel

/-- V-V6 under the alternative polynomial, and HEADER_FIXED_SIZE 352 as in V-V11: a frame of 352 bytes passes the
gate, one of 351 does not. -/
theorem test_validate_configurations :
    lastResponse (serve (State.resetWith Config.alternative) 0x07000000#32 (frameZ 0xCC#8 0x1B#8)) =
      some 0x015E0005#32 ∧
    lastResponse (serve (State.resetWith { Config.spec with headerFixedSize := 352 }) 0x07000000#32
      { frameZ 0xEA#8 0x5D#8 with length := 352 }) = some 0x015E0005#32 ∧
    lastResponse (serve (State.resetWith { Config.spec with headerFixedSize := 352 }) 0x07000000#32
      (zeroFrame 351)) = some 0x0000000C#32 := by decide +kernel

/-- Frame bytes are read in ascending offset order, the two-byte value little-endian (R42). -/
theorem test_frame_order : (Frame.ofBytes [0x01#8, 0x00#8, 0x03#8]).bytes? 0 3 = some [0x01#8, 0x00#8, 0x03#8] ∧
    (Frame.ofBytes [0x01#8, 0x00#8, 0x03#8]).memRead 1 2 = some 0x0300#16 ∧
    (Frame.ofBytes [0x01#8, 0x00#8, 0x03#8]).memRead 2 2 = none := by decide

/-- R8: another CRC_LEN and CRC_INIT. With CRC_LEN 1 the second FEED is discarded, and the CRC is one step from
CRC_INIT: from 0 the byte 1 gives entry 1 of R89's table. -/
theorem test_other_length : (nextState? (execAll [.feed 0x01#8, .feed 0x02#8]
      (State.resetWith { Config.spec with crcInit := 0x0000#16, crcLen := 1 }))).map (fun t => (t.crc, t.statusWord)) =
    some (0x1189#16, 0x00010003#32) := by decide

/-- V-I3: an illegal FEED does not consume its byte. -/
theorem test_illegal_word : (serve State.reset 0x02000100#32 Frame.empty).map
    (fun t => (t.crc, t.count, t.statusWord)) = some (0xFFFF#16, 0#9, 0x00000010#32) := by decide

/-- V-I11: the first error wins. -/
theorem test_first_error_wins : lastResponse (serve { State.reset with err := .incomplete } 0x08000000#32
    Frame.empty) = some 0x00000020#32 := by decide

/-- R170: reset in a state that differs everywhere. -/
theorem test_reset_input : nextState? (step { fullState 0x1234#16 0x5678#16 with
    overrun := true, verdict := .mismatch, err := .illegal, inputs := [.reset] }) = some State.reset := by decide

/-- R172. -/
theorem test_idle : nextState? (step State.reset) = some State.reset := by decide

/-! ### Witnesses: the hypotheses of the statements can be met -/

/-- ResetInputRestoresRegisters. -/
theorem witness_resetInput : Config.spec.Admitted ∧ ({ State.reset with inputs := [.reset] } : State).inputs = .reset :: [] :=
  ⟨by decide, rfl⟩

/-- IdleBlockWaits, and the admitted configurations of AdmittedBlockNeverStops and ConfigurationHoldsRuleValues: the
spec's two, the tightest header, the shortest and the longest checksum. -/
theorem witness_admitted : State.reset.cfg.Admitted ∧ State.reset.inputs = [] ∧ Config.alternative.Admitted ∧
    ({ Config.alternative with headerFixedSize := 352 } : Config).Admitted ∧
    ({ Config.spec with crcInit := 0x0000#16, crcLen := 1, crcOffset := 1, headerFixedSize := 3 } : Config).Admitted ∧
    ({ Config.spec with crcLen := 511, crcOffset := 511, headerFixedSize := 513 } : Config).Admitted := by decide

/-- InitStartsChecksum, third clause: INIT clears a recorded error, and so does VALIDATE. -/
theorem witness_init_clears : ∃ t u, exec .init { State.reset with err := .illegal } = .next t ∧
    exec .validate { State.reset with err := .illegal } = .next u ∧
    ({ State.reset with err := .illegal } : State).err ≠ .noError ∧ t.err = .noError ∧ u.err = .noError :=
  ⟨_, _, rfl, rfl, by decide, rfl, rfl⟩

/-- FeedConsumesOrDiscards and CheckComparesOrRaises: COUNT at 349 and at 350. -/
theorem witness_count : State.reset.cfg.Admitted ∧
    ({ State.reset with count := 349#9 } : State).count.toNat < State.reset.cfg.crcLen ∧
    ({ State.reset with count := 349#9 } : State).count.toNat ≠ State.reset.cfg.crcLen ∧
    (fullState 0#16 0#16).cfg.crcLen ≤ (fullState 0#16 0#16).count.toNat ∧
    (fullState 0#16 0#16).count.toNat = (fullState 0#16 0#16).cfg.crcLen := by decide

/-- CheckComparesOrRaises: equal and unequal checksums, no error and an error. -/
theorem witness_check : (fullState 1#16 1#16).crc = (fullState 1#16 1#16).expect ∧
    (fullState 1#16 2#16).crc ≠ (fullState 1#16 2#16).expect ∧ State.reset.err = .noError ∧
    ({ State.reset with err := .illegal } : State).err ≠ .noError := by decide

/-- ValidateJudgesFrame, LengthGateDecidesTruncated, ValidateEqualsStreamingCommands: frames of 511 and 512 bytes. -/
theorem witness_frame_lengths : (offering (zeroFrame 511)).framePort.length < State.reset.cfg.headerFixedSize ∧
    (offering (zeroFrame 0)).framePort.length < State.reset.cfg.headerFixedSize ∧
    (offering (zeroFrame 512)).cfg.Admitted ∧
    State.reset.cfg.headerFixedSize ≤ (offering (zeroFrame 512)).framePort.length := by decide

/-- ValidateJudgesFrame: both outcomes of the comparison are met. -/
theorem witness_validate_verdicts :
    (nextState? (exec .validate (offering (frameZ 0xEA#8 0x5D#8)))).map (·.verdict) = some .accepted ∧
    (nextState? (exec .validate (offering (zeroFrame 512)))).map (·.verdict) = some .mismatch := by decide +kernel

/-- IllegalWordRecordsError: one word of each kind. -/
theorem witness_illegal : ({ State.reset with inputs := [.command 0x08000000#32 Frame.empty] } : State).inputs =
      .command 0x08000000#32 Frame.empty :: [] ∧ State.reset.cfg.Admitted ∧
    (∀ r ∈ opcodeMap, rowMatches 0x08000000#32 r = false) ∧ ∀ r ∈ opcodeMap, rowMatches 0x02000100#32 r = false := by
  decide

/-- StepRunsDecodedCommand, EveryWordGetsOneResponse and PresentedWordRunsNext. -/
theorem witness_decoded : (offering Frame.empty).inputs = .command 0x07000000#32 Frame.empty :: [] ∧
    (offering Frame.empty).cfg.Admitted ∧ decode 0x07000000#32 = .ok .validate ∧ Instr.validate.wf = true ∧
    decodeTableWord 32 0x07000000 = some .validate := by decide

/-- DecodeEncodeAgree and DecodeFollowsOpcodeMap: a legal word and the row it matches. -/
theorem witness_row : decode 0x020000FF#32 = .ok (.feed 0xFF#8) ∧ ∃ r ∈ opcodeMap, rowMatches 0x020000FF#32 r = true := by
  decide

/-- AssemblerEmitsRuleWords and PseudoInstructionsExpand: the ends of every range. -/
theorem witness_ranges : 255 ≤ 255 ∧ 255 < 256 ∧ 65535 ≤ 65535 ∧ 65535 < 65536 ∧ 4294967295 < 2 ^ 32 ∧
    2 ^ 32 ≤ 4294967296 ∧ [0, 255] ≠ [] ∧ ∀ n ∈ [0, 255], n ≤ 255 := by decide

/-- StepKeepsInvariant: a state that is not reset meets the invariant and goes on. -/
theorem witness_invariant : (fullState 0x5DEA#16 0x5DEA#16).Inv ∧
    ∃ t, step { fullState 0x5DEA#16 0x5DEA#16 with inputs := [.command 0x04000000#32 Frame.empty] } = .next t :=
  ⟨⟨by decide, by decide, by decide, by decide, by decide, by decide, by decide⟩, _, rfl⟩

/-- UnadmittedConfigurationIsRefused: each constraint broken by one, or by one bit. -/
theorem witness_unadmitted : ({ Config.spec with crcOffset := 349 } : Config).crcOffset < Config.spec.crcLen ∧
    ({ Config.spec with headerFixedSize := 351 } : Config).headerFixedSize < Config.spec.crcOffset + 2 ∧
    ({ Config.spec with crcWidth := 15 } : Config).crcWidth ≠ 16 ∧
    ({ Config.spec with tableSize := 255 } : Config).tableSize ≠ 256 ∧
    ({ Config.spec with countWidth := 10 } : Config).countWidth ≠ 9 ∧
    ({ Config.spec with commandWidth := 31 } : Config).commandWidth ≠ 32 ∧
    ({ Config.spec with responseWidth := 33 } : Config).responseWidth ≠ 32 ∧
    ({ Config.spec with crcLen := 0 } : Config).crcLen = 0 ∧
    512 ≤ ({ Config.spec with crcLen := 512 } : Config).crcLen ∧
    ({ Config.spec with crcXorOut := 0x0001#16 } : Config).crcXorOut ≠ 0x0000#16 := by decide

/-- OnlyNamedCommandsWriteRegisters: FEED changes CRC and COUNT, LOADEXP changes EXPECT, CHECK changes ERR. -/
theorem witness_writes : ∃ t u v, exec (.feed 0x31#8) State.reset = .next t ∧ t.crc ≠ State.reset.crc ∧
    t.count ≠ State.reset.count ∧ exec (.loadexp 1#16) State.reset = .next u ∧ u.expect ≠ State.reset.expect ∧
    exec .check State.reset = .next v ∧ v.err ≠ State.reset.err :=
  ⟨_, _, _, rfl, by decide, by decide, rfl, by decide, rfl, by decide⟩

/-- OnlyNamedCommandsWriteRegisters: a discarded FEED changes OVERRUN, CHECK at CRC_LEN changes VERDICT. -/
theorem witness_flag_writes : ∃ t u, exec (.feed 0#8) (fullState 0#16 0#16) = .next t ∧
    t.overrun ≠ (fullState 0#16 0#16).overrun ∧ exec .check (fullState 0#16 0#16) = .next u ∧
    u.verdict ≠ (fullState 0#16 0#16).verdict :=
  ⟨_, _, rfl, by decide, rfl, by decide⟩

/-- ErrorsAndOverrunAreSticky: reset clears both, INIT clears both, VALIDATE clears both. -/
theorem witness_sticky_cleared : ∃ t u v,
    step { State.reset with overrun := true, err := .illegal, inputs := [.reset] } = .next t ∧
    step { State.reset with overrun := true, err := .illegal, inputs := [.command 0x01000000#32 Frame.empty] } = .next u ∧
    step { State.reset with overrun := true, err := .illegal, inputs := [.command 0x07000000#32 Frame.empty] } = .next v ∧
    t.err ≠ .illegal ∧ t.overrun = false ∧ u.err ≠ .illegal ∧ u.overrun = false ∧ v.err ≠ .illegal ∧
    v.overrun = false :=
  ⟨_, _, _, rfl, rfl, rfl, by decide, rfl, by decide, rfl, by decide, rfl⟩

/-- NoStepWritesAFrame: a step with a second frame still offered, whose byte is there to read. -/
theorem witness_frame_kept : ∃ t, step { State.reset with inputs :=
      [.command 0x00000000#32 Frame.empty, .command 0x07000000#32 (Frame.ofBytes [0x05#8])] } = .next t ∧
    t.offeredByte? 0 0 = some 0x05#8 :=
  ⟨_, rfl, by decide⟩

/-- FramesStayCanonical: two canonical frames with the same bytes, and a state that offers one. -/
theorem witness_canonical : (Frame.ofBytes [0x00#8, 0x05#8]).wf = true ∧ (offering (Frame.ofBytes [0x05#8])).framesWf = true ∧
    (∃ t, step (offering (Frame.ofBytes [0x05#8])) = .next t) ∧
    ({ length := 2, cells := [(1, 0x05#8)] } : Frame).wf = true ∧
    ∀ a, (Frame.ofBytes [0x00#8, 0x05#8]).byte? a = ({ length := 2, cells := [(1, 0x05#8)] } : Frame).byte? a :=
  ⟨by decide, by decide, ⟨_, rfl⟩, by decide, fun _ => rfl⟩

/-- MemReadIsLittleEndian: both bytes there, and the frame one byte too short. -/
theorem witness_memRead : (Frame.ofBytes [0x02#8, 0x9C#8]).byte? 0 = some 0x02#8 ∧
    (Frame.ofBytes [0x02#8, 0x9C#8]).byte? 1 = some 0x9C#8 ∧ (Frame.ofBytes [0x02#8]).length < 0 + 2 := by decide

/-- SingleBitFlipChangesChecksum: both polynomials, the first and the last bit. -/
theorem witness_polynomials : (Config.spec.polyR = 0x8408#16 ∨ Config.spec.polyR = 0xA001#16) ∧
    (Config.alternative.polyR = 0x8408#16 ∨ Config.alternative.polyR = 0xA001#16) ∧ 0 < 8 ∧ 7 < 8 := by decide

/-- ValidateDependsOnReadBytesOnly: two frames that differ past offset 351 only (V-V10), in different states. -/
theorem witness_unread_bytes :
    let s := offering (frameZ 0xEA#8 0x5D#8)
    let s' := { offering { length := 512, cells := [(350, 0xEA#8), (351, 0x5D#8), (400, 0x55#8)] } with err := .illegal }
    s.cfg = s'.cfg ∧ (s.framePort.length < s.cfg.headerFixedSize ↔ s'.framePort.length < s.cfg.headerFixedSize) ∧
    s.cfg.headerFixedSize ≤ s.framePort.length ∧ (∀ j < 350, s.framePort.byte? j = s'.framePort.byte? j) ∧
    s.framePort.byte? 350 = s'.framePort.byte? 350 ∧ s.framePort.byte? 351 = s'.framePort.byte? 351 ∧
    s.framePort ≠ s'.framePort := by decide +kernel

/-- AcceptedIffChecksumsEqual and ValidateEqualsStreamingCommands: the covered bytes and the stored checksum of Z. -/
theorem witness_covered :
    (List.replicate 350 0x00#8).length = 350 ∧
    (∀ j < 350, (List.replicate 350 0x00#8)[j]? = (offering (frameZ 0xEA#8 0x5D#8)).framePort.byte? j) ∧
    (offering (frameZ 0xEA#8 0x5D#8)).framePort.byte? 350 = some 0xEA#8 ∧
    (offering (frameZ 0xEA#8 0x5D#8)).framePort.byte? 351 = some 0x5D#8 ∧
    (offering (frameZ 0xEA#8 0x5D#8)).framePort.memRead 350 2 = some (0x5DEA#16 : Half) := by
  refine ⟨List.length_replicate, fun j hj => ?_, by decide, by decide, by decide +kernel⟩
  rw [List.getElem?_replicate, if_pos hj]
  simp [offering, State.framePort, HostEvent.frame, frameZ, Frame.byte?, Memory.read, unlistedByte,
    show j < 512 by omega, show ¬ 350 = j by omega, show ¬ 351 = j by omega]

/-- StepKeepsChecksumOfConsumedBytes: a byte consumed after another, and the covered bytes of a frame. -/
theorem witness_consumed :
    ({ State.reset with crc := 0x5C0A#16, count := 1#9 } : State).Consumed [0x41#8] ∧
    (∃ t, step { State.reset with crc := 0x5C0A#16, count := 1#9, inputs := [.command 0x02000042#32 Frame.empty] } =
      .next t) ∧
    ({ State.reset with inputs := [.command 0x02000042#32 Frame.empty] } : State).consumedAfter [0x41#8] =
      [0x41#8, 0x42#8] ∧
    ((offering (frameZ 0xEA#8 0x5D#8)).consumedAfter [0x41#8]).length = 350 ∧
    (offering (zeroFrame 511)).consumedAfter [0x41#8] = [] :=
  ⟨⟨by decide, by decide⟩, ⟨_, rfl⟩, by decide, by decide +kernel, by decide⟩

/-- StoredChecksumIsAccepted: the zero header with its checksum put in. -/
theorem witness_stored : Config.spec.headerFixedSize ≤ (List.replicate 512 0x00#8).length ∧
    (offering (frameZ 0xEA#8 0x5D#8)).framePort = Frame.ofBytes
      (((List.replicate 512 0x00#8).set 350 ((crc16 Config.spec ((List.replicate 512 0x00#8).take 350)).extractLsb' 0 8)).set
        (350 + 1) ((crc16 Config.spec ((List.replicate 512 0x00#8).take 350)).extractLsb' 8 8)) := by decide +kernel

end Sys2Proof.Tests
end

section
/-! PROOFS. The configuration of R8. -/

namespace Sys2Proof

/-- The two constraints under R8's table, in the table's own spelling. -/
theorem Config.Admitted.offset_constraints {c : Config} (h : c.Admitted) :
    c.crcOffset ≥ c.crcLen ∧ c.headerFixedSize ≥ c.crcOffset + 2 :=
  ⟨h.crcLen_le, h.crcOffset_le⟩

/-- This spec's configuration is an admitted one, so what holds of those holds of it. -/
theorem Config.spec_admitted : Config.spec.Admitted := by decide

/-- Settles O45: the values are read off the two definitions, and the constraints are part of being admitted, for this
spec's configuration as for any other. -/
theorem configurationHoldsRuleValues : Obligations.ConfigurationHoldsRuleValues := by
  obtain ⟨spec_offset, spec_header⟩ := Config.spec_admitted.offset_constraints
  exact ⟨rfl, rfl, rfl, rfl, rfl, rfl, rfl, rfl, rfl, rfl, rfl, spec_offset, spec_header, rfl,
    fun _ admitted => admitted.offset_constraints⟩

end Sys2Proof
end

section
/-! PROOFS. The fields of the STATUS word, and the registers right after reset. -/

namespace Sys2Proof.Machine

/-- A field of STATUS is the value whose bits stand at the field's offset. -/
theorem packStatus_field {c : Count} {e : BitVec 4} {v : BitVec 2} {o d : Bool} {lo n : Nat} {x : BitVec n}
    (h : ∀ i < n, (packStatus c e v o d).getLsbD (lo + i) = x.getLsbD i) :
    (packStatus c e v o d).extractLsb' lo n = x :=
  BitVec.eq_of_getLsbD_eq fun i hi => by simp [hi, h i hi]

/-- STATUS[0] is DONE. -/
theorem packStatus_done (c : Count) (e : BitVec 4) (v : BitVec 2) (o d : Bool) :
    (packStatus c e v o d).extractLsb' 0 1 = BitVec.ofBool d :=
  packStatus_field fun i hi => by
    obtain rfl : i = 0 := by omega
    rw [packStatus_getLsbD _ _ _ _ _ _ (by omega), if_pos (by omega)]
    simp

/-- STATUS[1] is OVERRUN. -/
theorem packStatus_overrun (c : Count) (e : BitVec 4) (v : BitVec 2) (o d : Bool) :
    (packStatus c e v o d).extractLsb' 1 1 = BitVec.ofBool o :=
  packStatus_field fun i hi => by
    obtain rfl : i = 0 := by omega
    rw [packStatus_getLsbD _ _ _ _ _ _ (by omega), if_neg (by omega), if_pos (by omega)]
    simp

/-- STATUS[3:2] is VERDICT. -/
theorem packStatus_verdict (c : Count) (e : BitVec 4) (v : BitVec 2) (o d : Bool) :
    (packStatus c e v o d).extractLsb' 2 2 = v :=
  packStatus_field fun i hi => by
    rw [packStatus_getLsbD _ _ _ _ _ _ (by omega), if_neg (by omega), if_neg (by omega), if_pos (by omega),
      Nat.add_sub_cancel_left]

/-- STATUS[7:4] is ERR. -/
theorem packStatus_err (c : Count) (e : BitVec 4) (v : BitVec 2) (o d : Bool) :
    (packStatus c e v o d).extractLsb' 4 4 = e :=
  packStatus_field fun i hi => by
    rw [packStatus_getLsbD _ _ _ _ _ _ (by omega), if_neg (by omega), if_neg (by omega), if_neg (by omega),
      if_pos (by omega), Nat.add_sub_cancel_left]

/-- STATUS[15:8] is reserved and 0. -/
theorem packStatus_reserved_low (c : Count) (e : BitVec 4) (v : BitVec 2) (o d : Bool) :
    (packStatus c e v o d).extractLsb' 8 8 = 0#8 :=
  packStatus_field fun i hi => by
    rw [packStatus_getLsbD _ _ _ _ _ _ (by omega), if_neg (by omega), if_neg (by omega), if_neg (by omega),
      if_neg (by omega), if_pos (by omega), BitVec.getLsbD_zero]

/-- From bit 16 on STATUS is COUNT, as far as the word reaches. -/
theorem packStatus_getLsbD_high (c : Count) (e : BitVec 4) (v : BitVec 2) (o d : Bool) {i : Nat} (h : 16 + i < 32) :
    (packStatus c e v o d).getLsbD (16 + i) = c.getLsbD i := by
  rw [packStatus_getLsbD _ _ _ _ _ _ h, if_neg (by omega), if_neg (by omega), if_neg (by omega),
    if_neg (by omega), if_neg (by omega), Nat.add_sub_cancel_left]

/-- STATUS[24:16] is COUNT. -/
theorem packStatus_count (c : Count) (e : BitVec 4) (v : BitVec 2) (o d : Bool) :
    (packStatus c e v o d).extractLsb' 16 9 = c :=
  packStatus_field fun i hi => packStatus_getLsbD_high c e v o d (by omega)

/-- STATUS[31:25] is reserved and 0: COUNT has only 9 bits. -/
theorem packStatus_reserved_high (c : Count) (e : BitVec 4) (v : BitVec 2) (o d : Bool) :
    (packStatus c e v o d).extractLsb' 25 7 = 0#7 :=
  packStatus_field fun i hi => by
    rw [show 25 + i = 16 + (9 + i) by omega, packStatus_getLsbD_high c e v o d (by omega),
      BitVec.getLsbD_of_ge c (9 + i) (by omega), BitVec.getLsbD_zero]

/-- Settles O21: each field of STATUS is read off the packed word, and the codes off their definitions. -/
theorem statusWordLayout : Obligations.StatusWordLayout :=
  ⟨fun _ => ⟨packStatus_done .., packStatus_overrun .., packStatus_verdict .., packStatus_err ..,
      packStatus_reserved_low .., packStatus_count .., packStatus_reserved_high ..⟩,
    rfl, rfl, rfl, rfl, rfl, rfl, rfl⟩

/-- Right after reset DONE is 0, since there is a byte to cover. -/
theorem State.resetWith_done {c : Config} (hc : c.Admitted) : (State.resetWith c).done = false := by
  have hpos := hc.crcLen_pos
  simp only [State.done, State.resetWith_count, State.resetWith_cfg, BitVec.toNat_zero, beq_eq_false_iff_ne]
  omega

/-- Right after reset STATUS is 0: every field that it packs is. -/
theorem State.resetWith_statusWord {c : Config} (hc : c.Admitted) : (State.resetWith c).statusWord = 0x00000000#32 := by
  rw [State.statusWord, State.resetWith_done hc]
  show packStatus 0#9 0#4 0#2 false false = 0x00000000#32
  decide

/-- Settles O1: every register is read off the reset state, in this spec's configuration as in any other. -/
theorem resetRegistersHoldRuleValues : Obligations.ResetRegistersHoldRuleValues :=
  ⟨rfl, rfl, State.resetWith_statusWord Config.spec_admitted, fun _ =>
    ⟨rfl, rfl, rfl, rfl, rfl, rfl, State.resetWith_statusWord, fun _ => rfl⟩⟩

end Sys2Proof.Machine
end

section
/-! PROOFS. The invariants of R30: what is enough for a state to meet them, which updates keep or establish them, and
that a step keeps them. -/

namespace Sys2Proof.Machine

/-- ERR holds one of the three codes (R142), by its type. -/
theorem CommandError.code_cases (e : CommandError) : e.code = 0#4 ∨ e.code = 1#4 ∨ e.code = 2#4 := by
  cases e <;> decide

/-- (e) and (f) hold in every state, so (a) to (d) are enough. -/
theorem State.Inv.of_count_verdict {s : State} (bounded : s.count.toNat ≤ s.cfg.crcLen)
    (judged : s.verdict = .accepted ∨ s.verdict = .mismatch → s.done = true)
    (equal : s.verdict = .accepted → s.crc = s.expect) (unequal : s.verdict = .mismatch → s.crc ≠ s.expect)
    (fresh : s.verdict = .truncated → s.count = 0#9 ∧ s.crc = s.cfg.crcInit) : s.Inv :=
  ⟨bounded, judged, equal, unequal, fresh, s.err.code_cases, packStatus_reserved_low .., packStatus_reserved_high ..⟩

/-- Without a verdict only the bound on COUNT is left to meet. -/
theorem State.Inv.of_noVerdict {s : State} (bounded : s.count.toNat ≤ s.cfg.crcLen) (hv : s.verdict = .noVerdict) :
    s.Inv := by
  apply State.Inv.of_count_verdict bounded <;> simp [hv]

/-- The verdict of the comparison is fitting at CRC_LEN. -/
theorem State.Inv.of_compared {s : State} (full : s.count.toNat = s.cfg.crcLen)
    (hv : s.verdict = compareVerdict s.crc s.expect) : s.Inv := by
  have not_truncated : s.verdict ≠ .truncated := by
    obtain h | h := compareVerdict_cases s.crc s.expect <;> simp [hv, h]
  exact State.Inv.of_count_verdict full.le (fun _ => s.done_iff.mpr full)
    (fun h => (compareVerdict_eq_accepted ..).mp (hv.symm.trans h))
    (fun h => (compareVerdict_eq_mismatch ..).mp (hv.symm.trans h)) (fun h => absurd h not_truncated)

/-- OVERRUN, ERR and the ports have no part in the invariants. -/
theorem State.Inv.of_same {s t : State} (hs : s.Inv) (cfg : t.cfg = s.cfg) (crc : t.crc = s.crc)
    (expect : t.expect = s.expect) (count : t.count = s.count) (verdict : t.verdict = s.verdict) : t.Inv := by
  have done_eq : t.done = s.done := by rw [State.done, State.done, count, cfg]
  apply State.Inv.of_count_verdict <;> simp only [cfg, crc, expect, count, verdict, done_eq]
  · exact hs.countBounded
  · exact hs.judgedIsDone
  · exact hs.acceptedIsEqual
  · exact hs.mismatchIsUnequal
  · exact hs.truncatedIsFresh

/-! ### The updates -/

theorem State.Inv.respond {s : State} (hs : s.Inv) (w : Word) : (s.respond w).Inv := hs.of_same rfl rfl rfl rfl rfl

theorem State.Inv.respondStatus {s : State} (hs : s.Inv) : s.respondStatus.Inv := hs.respond _

theorem State.Inv.raise {s : State} (hs : s.Inv) (e : CommandError) : (s.raise e).Inv := hs.of_same rfl rfl rfl rfl rfl

theorem State.Inv.illegalWord {s : State} (hs : s.Inv) : s.illegalWord.Inv := (hs.raise _).respondStatus

theorem State.Inv.discardByte {s : State} (hs : s.Inv) : s.discardByte.Inv := hs.of_same rfl rfl rfl rfl rfl

theorem State.Inv.loadExpected {s : State} (hs : s.Inv) (v : Half) : (s.loadExpected v).Inv :=
  State.Inv.of_noVerdict hs.countBounded rfl

/-- The reset input establishes the invariants. -/
theorem State.inv_resetInput (s : State) : s.resetInput.Inv := State.Inv.of_noVerdict (by simp) rfl

/-- INIT's writes establish the invariants. -/
theorem State.inv_startChecksum (s : State) : s.startChecksum.Inv := State.Inv.of_noVerdict (by simp) rfl

/-- A byte consumed below CRC_LEN leaves COUNT within its bound. -/
theorem State.inv_consumeByte {s : State} (hcfg : s.cfg.Admitted) (b : Byte) (h : s.count.toNat < s.cfg.crcLen) :
    (s.consumeByte b).Inv := by
  refine State.Inv.of_noVerdict ?_ rfl
  rw [State.consumeByte_count, State.consumeByte_cfg, State.count_succ hcfg h]
  exact h

theorem State.Inv.feedByte {s : State} (hs : s.Inv) (hcfg : s.cfg.Admitted) (b : Byte) : (s.feedByte b).Inv := by
  by_cases h : s.count.toNat < s.cfg.crcLen
  · rw [State.feedByte_of_lt b h]
    exact State.inv_consumeByte hcfg b h
  · rw [State.feedByte_of_full b h]
    exact hs.discardByte

theorem State.Inv.checkChecksum {s : State} (hs : s.Inv) : s.checkChecksum.Inv := by
  cases h : s.done with
  | true =>
    rw [State.checkChecksum_of_done h]
    exact State.Inv.of_compared (s.done_iff.mp h) rfl
  | false =>
    rw [State.checkChecksum_of_not_done h]
    exact hs.raise .incomplete

/-- TRUNCATED is fitting right after INIT's writes. -/
theorem State.inv_startChecksum_markTruncated (s : State) : s.startChecksum.markTruncated.Inv :=
  State.Inv.of_count_verdict s.inv_startChecksum.countBounded (by simp) (by simp) (by simp) (by simp)

/-- Taking in a frame brings COUNT to CRC_LEN and compares. -/
theorem State.inv_loadFrame {s : State} (hcfg : s.cfg.Admitted) (covered : List Byte) (stored : Half) :
    (s.loadFrame covered stored).Inv :=
  State.Inv.of_compared hcfg.fullCount_toNat rfl

/-! ### The commands and the step -/

/-- Every command that completes keeps the invariants. -/
theorem State.Inv.of_exec {i : Instr} {s t : State} (hs : s.Inv) (hcfg : s.cfg.Admitted) (h : exec i s = .next t) :
    t.Inv := by
  obtain ⟨-, rfl⟩ | ⟨-, rfl⟩ | ⟨b, -, rfl⟩ | ⟨v, -, rfl⟩ | ⟨-, rfl⟩ | ⟨-, rfl⟩ | ⟨-, rfl⟩ | ⟨-, -, rfl⟩ |
    ⟨covered, stored, -, -, -, -, rfl⟩ := exec_next_cases h
  · exact hs.respondStatus
  · exact s.inv_startChecksum.respondStatus
  · exact (hs.feedByte hcfg b).respondStatus
  · exact (hs.loadExpected v).respondStatus
  · exact hs.checkChecksum.respondStatus
  · exact hs.respond _
  · exact hs.respondStatus
  · exact s.inv_startChecksum_markTruncated.respondStatus
  · exact (State.inv_loadFrame (s := s.startChecksum) hcfg covered stored).respondStatus

/-- Settles O23: a step waits, resets, runs a command or records an illegal word, and each of these keeps the
invariants. -/
theorem stepKeepsInvariant : Obligations.StepKeepsInvariant := by
  intro s t hs h
  obtain ⟨hcfg, ⟨-, rfl⟩ | ⟨-, -, rfl⟩ | ⟨-, -, -, i, -, -, hexec⟩ | ⟨-, -, -, -, -, -, rfl⟩⟩ := step_next_cases h
  · exact hs
  · exact s.inv_resetInput
  · exact hs.of_exec hcfg hexec
  · exact hs.illegalWord

end Sys2Proof.Machine
end

section
/-! PROOFS. The encoding: what decoding a word says of its bits, and how the opcode map of R67 reads the same bits. -/

namespace Sys2Proof

/-! ### The encoder undoes the decoder, and the other way round -/

/-- A word whose must-be-zero bits, from `lo` up to OP, are 0 is OP and its low `lo` bits put together. -/
theorem word_eq_op_or_low {w : Word} {lo n : Nat} (hn : lo + n = 24) (hz : w.extractLsb' lo n = 0#n) :
    ((opField w).setWidth 32 <<< 24 : Word) ||| (w.extractLsb' 0 lo).setWidth 32 = w := by
  apply BitVec.eq_of_getLsbD_eq
  intro j hj
  rcases Nat.lt_or_ge j 24 with hlow | hhigh
  · rcases Nat.lt_or_ge j lo with hopd | hzero
    · simp [hj, hlow, hopd]
    · have bit_zero : w.getLsbD j = false := by
        have := congrArg (·.getLsbD (j - lo)) hz
        simpa [show j - lo < n by omega, show lo + (j - lo) = j by omega] using this
      simp [hlow, bit_zero, show ¬ j < lo by omega]
  · simp [opField, hj, show ¬ j < 24 by omega, show j - 24 < 8 by omega, show ¬ j < lo by omega,
      show 24 + (j - 24) = j by omega]

/-- A word that format N reads as a command is the word of that command. -/
theorem encode_of_decodeFormatN {w : Word} {op : Byte} {i j : Instr} (hop : opField w = op)
    (henc : encode i = encodeFormatN op) (h : decodeFormatN w i = .ok j) : encode j = w := by
  unfold decodeFormatN at h
  split at h
  · next hz =>
      obtain rfl : i = j := by simpa using h
      rw [henc, ← hop]
      simpa [encodeFormatN] using word_eq_op_or_low (lo := 0) (n := 24) (by omega) hz
  · simp at h

/-- A word that format B reads as a command is the word of that command. -/
theorem encode_of_decodeFormatB {w : Word} {op : Byte} {mk : Byte → Instr} {j : Instr} (hop : opField w = op)
    (henc : ∀ b, encode (mk b) = encodeFormatB op b) (h : decodeFormatB w mk = .ok j) : encode j = w := by
  unfold decodeFormatB at h
  split at h
  · next hz =>
      obtain rfl : mk (byteField w) = j := by simpa using h
      rw [henc, ← hop]
      exact word_eq_op_or_low (by omega) hz
  · simp at h

/-- A word that format H reads as a command is the word of that command. -/
theorem encode_of_decodeFormatH {w : Word} {op : Byte} {mk : Half → Instr} {j : Instr} (hop : opField w = op)
    (henc : ∀ v, encode (mk v) = encodeFormatH op v) (h : decodeFormatH w mk = .ok j) : encode j = w := by
  unfold decodeFormatH at h
  split at h
  · next hz =>
      obtain rfl : mk (halfField w) = j := by simpa using h
      rw [henc, ← hop]
      exact word_eq_op_or_low (by omega) hz
  · simp at h

/-- A legal word is the word of the command it decodes to. -/
theorem encode_of_decode {w : Word} {i : Instr} (h : decode w = .ok i) : encode i = w := by
  unfold decode at h
  split_ifs at h with nop init feed loadexp check readcrc readstatus validate
  · exact encode_of_decodeFormatN nop rfl h
  · exact encode_of_decodeFormatN init rfl h
  · exact encode_of_decodeFormatB feed (fun _ => rfl) h
  · exact encode_of_decodeFormatH loadexp (fun _ => rfl) h
  · exact encode_of_decodeFormatN check rfl h
  · exact encode_of_decodeFormatN readcrc rfl h
  · exact encode_of_decodeFormatN readstatus rfl h
  · exact encode_of_decodeFormatN validate rfl h

/-- Every command is read back from its word. -/
theorem decode_encode (i : Instr) : decode (encode i) = .ok i := by
  cases i with
  | feed b => simp [encode, decode, decodeFormatB]
  | loadexp v => simp [encode, decode, decodeFormatH]
  | nop | init | check | readcrc | readstatus | validate => simp [encode, decode, decodeFormatN]

/-- A word decodes to a command iff it is the word of that command. -/
theorem decode_eq_ok_iff {w : Word} {i : Instr} : decode w = .ok i ↔ encode i = w :=
  ⟨encode_of_decode, fun h => h ▸ decode_encode i⟩

/-! ### The opcode map -/

/-- The word of every command matches a row that bears the command's mnemonic. -/
theorem encode_matches_row (i : Instr) : ∃ r ∈ opcodeMap, r.mnemonic = i.mnemonic ∧ rowMatches (encode i) r = true := by
  cases i with
  | nop => exact Laws.OneOpcodeRow.nop
  | init => exact Laws.OneOpcodeRow.init
  | feed b => exact Laws.OneOpcodeRow.feed b
  | loadexp v => exact Laws.OneOpcodeRow.loadexp v
  | check => exact Laws.OneOpcodeRow.check
  | readcrc => exact Laws.OneOpcodeRow.readcrc
  | readstatus => exact Laws.OneOpcodeRow.readstatus
  | validate => exact Laws.OneOpcodeRow.validate

/-- A word agrees with a row that it matches in every field that lies wholly under the row's mask. -/
theorem extractLsb'_of_rowMatches {w : Word} {r : OpcodeRow} {lo n : Nat} (h : rowMatches w r = true)
    (hmask : r.maskBits.extractLsb' lo n = BitVec.allOnes n) :
    w.extractLsb' lo n = r.matchBits.extractLsb' lo n := by
  rw [← eq_of_beq h, BitVec.extractLsb'_and, hmask, BitVec.and_allOnes]

/-- Every row's mask covers OP. -/
theorem opcodeMap_maskBits_op : ∀ r ∈ opcodeMap, r.maskBits.extractLsb' 24 8 = BitVec.allOnes 8 := by decide

/-- No two rows have the same OP. -/
theorem opcodeMap_op_injective : ∀ r ∈ opcodeMap, ∀ r' ∈ opcodeMap,
    r.matchBits.extractLsb' 24 8 = r'.matchBits.extractLsb' 24 8 → r = r' := by decide

/-- No two rows match the same word: OP tells them apart. -/
theorem row_unique_of_rowMatches {w : Word} {r r' : OpcodeRow} (hr : r ∈ opcodeMap) (hr' : r' ∈ opcodeMap)
    (h : rowMatches w r = true) (h' : rowMatches w r' = true) : r = r' :=
  opcodeMap_op_injective r hr r' hr' <|
    (extractLsb'_of_rowMatches h (opcodeMap_maskBits_op r hr)).symm.trans
      (extractLsb'_of_rowMatches h' (opcodeMap_maskBits_op r' hr'))

/-- A row either fixes the whole word, which is then legal, or is FEED's or LOADEXP's, whose masks leave the operand
free (R63 to R65). -/
theorem opcodeMap_row_cases : ∀ r ∈ opcodeMap,
    (r.maskBits = BitVec.allOnes 32 ∧ (decode r.matchBits).isOk = true) ∨
    (r.matchBits = 0x02000000#32 ∧ r.maskBits = 0xFFFFFF00#32) ∨
    (r.matchBits = 0x03000000#32 ∧ r.maskBits = 0xFFFF0000#32) := by decide

/-- A word that matches a row is legal. -/
theorem decode_of_rowMatches {w : Word} {r : OpcodeRow} (hr : r ∈ opcodeMap) (h : rowMatches w r = true) :
    ∃ i, decode w = .ok i := by
  have op_eq : opField w = r.matchBits.extractLsb' 24 8 := extractLsb'_of_rowMatches h (opcodeMap_maskBits_op r hr)
  obtain ⟨hmask, hok⟩ | ⟨hmatch, hmask⟩ | ⟨hmatch, hmask⟩ := opcodeMap_row_cases r hr
  · have word_eq : w = r.matchBits := by rw [← eq_of_beq h, hmask, BitVec.and_allOnes]
    rw [← word_eq] at hok
    cases hdec : decode w with
    | ok i => exact ⟨i, rfl⟩
    | error e => simp [hdec, Except.isOk, Except.toBool] at hok
  · have zero_field : w.extractLsb' 8 16 = 0#16 := by
      rw [extractLsb'_of_rowMatches h (by rw [hmask]; decide), hmatch]; decide
    exact ⟨.feed (byteField w), by simp [decode, decodeFormatB, op_eq, hmatch, zero_field]⟩
  · have zero_field : w.extractLsb' 16 8 = 0#8 := by
      rw [extractLsb'_of_rowMatches h (by rw [hmask]; decide), hmatch]; decide
    exact ⟨.loadexp (halfField w), by simp [decode, decodeFormatH, op_eq, hmatch, zero_field]⟩

/-- A legal word matches a row that bears its command's mnemonic. -/
theorem row_of_decode {w : Word} {i : Instr} (h : decode w = .ok i) :
    ∃ r ∈ opcodeMap, r.mnemonic = i.mnemonic ∧ rowMatches w r = true :=
  encode_of_decode h ▸ encode_matches_row i

/-- Settles O16: a legal word is the word of its command, which matches a row of that mnemonic; a word that matches a
row decodes, since the mask covers OP and the must-be-zero bits; and OP tells the rows apart. -/
theorem decodeFollowsOpcodeMap : Obligations.DecodeFollowsOpcodeMap := by
  intro w
  refine ⟨⟨fun ⟨i, hi⟩ => ?_, fun ⟨r, hr, h⟩ => decode_of_rowMatches hr h⟩, fun i hi r hr h => ?_,
    fun r hr r' hr' h h' => row_unique_of_rowMatches hr hr' h h'⟩
  · obtain ⟨r, hr, -, h⟩ := row_of_decode hi
    exact ⟨r, hr, h⟩
  · obtain ⟨r', hr', hname, h'⟩ := row_of_decode hi
    rwa [row_unique_of_rowMatches hr hr' h h']

end Sys2Proof
end

section
/-! PROOFS. The one response of every command word (R61). -/

namespace Sys2Proof.Machine

/-- In an admitted configuration every command completes: VALIDATE's reads exist. -/
theorem exec_goesOn {s : State} (hcfg : s.cfg.Admitted) (i : Instr) : GoesOn (exec i s) := by
  cases i with
  | nop | init | feed _ | loadexp _ | check | readcrc | readstatus => exact ⟨_, rfl⟩
  | validate =>
    by_cases h : s.framePort.length < s.cfg.headerFixedSize
    · exact ⟨_, execValidate_of_short h⟩
    · obtain ⟨_, _, -, -, hexec⟩ := execValidate_of_long hcfg h
      exact ⟨_, hexec⟩

/-- Register writes `u`, which leave the ports and the configuration alone, and then the response STATUS complete a
command. -/
theorem State.Responds.of_respondStatus {s u : State} (responses : u.responses = s.responses := by simp)
    (inputs : u.inputs = s.inputs := by simp) (cfg : u.cfg = s.cfg := by simp) :
    s.Responds u.respondStatus u.respondStatus.statusWord := by
  simp [State.Responds, responses, inputs, cfg]

/-- An illegal word gets the response STATUS. -/
theorem State.responds_illegalWord (s : State) : s.Responds s.illegalWord s.illegalWord.statusWord :=
  .of_respondStatus

/-- A command that completes gives one response: CRC for READCRC, STATUS after the effects for every other. -/
theorem exec_responds {i : Instr} {s t : State} (h : exec i s = .next t) :
    s.Responds t (if i = .readcrc then zext32 t.crc else t.statusWord) := by
  obtain ⟨rfl, rfl⟩ | ⟨rfl, rfl⟩ | ⟨b, rfl, rfl⟩ | ⟨v, rfl, rfl⟩ | ⟨rfl, rfl⟩ | ⟨rfl, rfl⟩ | ⟨rfl, rfl⟩ |
    ⟨rfl, -, rfl⟩ | ⟨covered, stored, rfl, -, -, -, rfl⟩ := exec_next_cases h
  · exact .of_respondStatus
  · exact .of_respondStatus
  · exact .of_respondStatus
  · exact .of_respondStatus
  · exact .of_respondStatus
  · exact ⟨rfl, rfl, rfl⟩
  · exact .of_respondStatus
  · exact .of_respondStatus
  · exact .of_respondStatus

/-- The word 0x05000000 is READCRC's, and no other command's. -/
theorem decode_eq_readcrc_iff {w : Word} : decode w = .ok .readcrc ↔ w = 0x05000000#32 := by
  rw [decode_eq_ok_iff, show encode .readcrc = 0x05000000#32 by decide, eq_comm]

/-- Settles O22: a legal word responds as its command does, and of the commands only READCRC has the word 0x05000000;
an illegal word responds with STATUS. -/
theorem everyWordGetsOneResponse : Obligations.EveryWordGetsOneResponse := by
  intro s w f rest hcfg hin
  rw [step_of_command hcfg hin]
  cases hdec : decode w with
  | ok i =>
    obtain ⟨t, ht⟩ := exec_goesOn hcfg i
    refine ⟨t, (runCommand_of_ok hdec).trans ht, ?_⟩
    simpa [← decode_eq_readcrc_iff, hdec, zext32] using exec_responds ht
  | error e =>
    refine ⟨s.illegalWord, runCommand_of_error hdec, ?_⟩
    simpa [← decode_eq_readcrc_iff, hdec] using s.responds_illegalWord

end Sys2Proof.Machine
end

section
/-! PROOFS. The CRC step: how the byte and the two halves of CRC enter it (R82 to R85), and the printed tables. -/

namespace Sys2Proof.Machine

/-! ### The halves of a 16-bit value -/

/-- Shifted down by 8, a halfword is its high byte zero-extended. -/
theorem half_ushiftRight_eight (c : Half) : c >>> 8 = (c.extractLsb' 8 8).setWidth 16 := by
  ext j hj
  rcases Nat.lt_or_ge j 8 with hlow | hhigh
  · simp [← BitVec.getLsbD_eq_getElem, hj, hlow]
  · simp [← BitVec.getLsbD_eq_getElem, show ¬ j < 8 by omega, half_getLsbD_high c (j := 8 + j) (by omega)]

/-- The low byte of a halfword with a byte added in is the low byte with that byte added in. -/
theorem half_xor_byte_low (c : Half) (b : Byte) :
    ((c ^^^ b.setWidth 16) &&& 0x00FF#16).setWidth 8 = c.extractLsb' 0 8 ^^^ b := by
  have mask_low : (0x00FF#16).setWidth 8 = BitVec.allOnes 8 := by decide
  rw [BitVec.setWidth_and, mask_low, BitVec.and_allOnes, BitVec.setWidth_xor,
    BitVec.setWidth_setWidth_of_le b (by omega), BitVec.setWidth_eq, BitVec.setWidth_eq_extractLsb' (by omega)]

/-- A byte is added into the low byte of a halfword, and the high byte stands above the sum. -/
theorem half_xor_byte (c : Half) (b : Byte) :
    c ^^^ b.setWidth 16 = ((c.extractLsb' 8 8).setWidth 16 <<< 8) ^^^ (c.extractLsb' 0 8 ^^^ b).setWidth 16 := by
  ext j hj
  rcases Nat.lt_or_ge j 8 with hlow | hhigh
  · simp [← BitVec.getLsbD_eq_getElem, hj, hlow]
  · simp [← BitVec.getLsbD_eq_getElem, hj, show ¬ j < 8 by omega, show j - 8 < 8 by omega,
      show j - 8 < 16 by omega, show 8 + (j - 8) = j by omega, byte_getLsbD_high b hhigh]

/-- Settles O33: the index is the low byte with the byte added in, and the rest is the high byte. -/
theorem stepIndexesWithLowByte : Obligations.StepIndexesWithLowByte := by
  intro p c b
  rw [crcStep, half_ushiftRight_eight, half_xor_byte_low]

/-! ### The bit-serial form -/

/-- Rounds that meet no 1 bit at the low end only shift: the polynomial does not enter. -/
theorem shiftRounds_of_low_zero (p : Half) : ∀ {n : Nat} {d : Half}, (∀ j < n, d.getLsbD j = false) →
    shiftRounds p n d = d >>> n := by
  intro n
  induction n with
  | zero => intro d _; simp [shiftRounds]
  | succ n ih =>
    intro d low
    have round_eq : shiftRound p d = d >>> 1 := by rw [shiftRound, low 0 (by omega)]; rfl
    have low_shifted : ∀ j < n, (d >>> 1).getLsbD j = false := fun j hj => by
      simp [low (1 + j) (by omega)]
    rw [shiftRounds, round_eq, ih low_shifted, ← BitVec.shiftRight_add, Nat.add_comm]

/-- Eight rounds bring a byte in the high half down to the low half, whatever the polynomial. -/
theorem shiftRounds_highByte (p : Half) (b : Byte) : shiftRounds p 8 (b.setWidth 16 <<< 8) = b.setWidth 16 := by
  rw [shiftRounds_of_low_zero p (fun j hj => by simp [hj])]
  ext j hj
  rcases Nat.lt_or_ge j 8 with hlow | hhigh
  · simp [← BitVec.getLsbD_eq_getElem, hj, show 8 + j < 16 by omega]
  · simp [← BitVec.getLsbD_eq_getElem, show ¬ 8 + j < 16 by omega, byte_getLsbD_high b hhigh]

/-- R85: by linearity the eight rounds act on the two halves apart. They shift the high byte down, and make of the low
byte, with the new byte added in, its table entry. -/
theorem crcStep_eq_crcStepSerial (p c : Half) (b : Byte) : crcStep p c b = crcStepSerial p c b := by
  calc crcStep p c b
      = (c.extractLsb' 8 8).setWidth 16 ^^^ table p (c.extractLsb' 0 8 ^^^ b) := stepIndexesWithLowByte p c b
    _ = shiftRounds p 8 ((c.extractLsb' 8 8).setWidth 16 <<< 8) ^^^
          shiftRounds p 8 ((c.extractLsb' 0 8 ^^^ b).setWidth 16) := by rw [shiftRounds_highByte]; rfl
    _ = crcStepSerial p c b := by rw [← shiftRounds_xor, ← half_xor_byte]; rfl

/-- Settles O35: the two forms of the step agree, and the check values are computed. -/
theorem tableStepIsBitSerial : Obligations.TableStepIsBitSerial :=
  ⟨crcStep_eq_crcStepSerial, by decide, by decide⟩

/-- Table entry 0 is 0 for every polynomial: no round meets a 1 bit. -/
theorem table_zero (p : Half) : table p 0x00#8 = 0x0000#16 :=
  (shiftRounds_of_low_zero p (by simp)).trans (by decide)

/-- A byte equal to CRC's low byte picks the table entry 0, so the step leaves the high byte alone (R87's first
value, for any CRC). -/
theorem crcStep_of_byte_eq_low (p c : Half) : crcStep p c (c.extractLsb' 0 8) = (c.extractLsb' 8 8).setWidth 16 := by
  rw [stepIndexesWithLowByte, BitVec.xor_self, table_zero, BitVec.xor_zero]

/-! ### The printed tables -/

/-- TABLE written out as a list, in the order of its 256 indices. -/
def tableList (p : Half) : List Half := (List.range 256).map fun i => table p (BitVec.ofNat 8 i)

@[simp] theorem length_tableList (p : Half) : (tableList p).length = 256 := by
  rw [tableList, List.length_map, List.length_range]

@[simp] theorem getElem?_tableList (p : Half) (i : Byte) : (tableList p)[i.toNat]? = some (table p i) := by
  have index_lt : i.toNat < 256 := i.isLt
  simp [tableList, index_lt]

theorem listing8408_eq_tableList : listing8408 = tableList 0x8408#16 := by decide +kernel

theorem listingA001_eq_tableList : listingA001 = tableList 0xA001#16 := by decide +kernel

/-- Settles O32: each listing is the generated table, entry for entry. -/
theorem tablesAreThePrintedOnes : Obligations.TablesAreThePrintedOnes := by
  unfold Obligations.TablesAreThePrintedOnes
  rw [listing8408_eq_tableList, listingA001_eq_tableList]
  exact ⟨getElem?_tableList _, getElem?_tableList _, length_tableList _, length_tableList _⟩

/-! ### The checksum -/

/-- One more byte at the end is one more step. -/
theorem crc16_append_singleton (c : Config) (bs : List Byte) (b : Byte) :
    crc16 c (bs ++ [b]) = crcStep c.polyR (crc16 c bs) b := by
  rw [crc16, crcFold_append, crcFold_cons, crcFold_nil, crc16]

/-- Settles O34: the checksum is defined as the fold, and a CRC_XOROUT of 0 changes no value. -/
theorem checksumIsTheFoldOfSteps : Obligations.ChecksumIsTheFoldOfSteps :=
  ⟨rfl, fun c => ⟨rfl, crc16_append_singleton c, fun _ => rfl,
    fun hc bs => by rw [hc.crcXorOut_eq, BitVec.xor_zero]⟩⟩

end Sys2Proof.Machine
end

section
/-! PROOFS. The CRC datapath commands: INIT (R86) and FEED (R87). -/

namespace Sys2Proof.Machine

/-! ### INIT -/

/-- CHECK keeps a recorded error, whether it compares or raises. -/
theorem State.checkChecksum_err_of_ne {s : State} (h : s.err ≠ .noError) : s.checkChecksum.err = s.err := by
  cases hdone : s.done with
  | true => rw [State.checkChecksum_of_done hdone, State.judge_err]
  | false => rw [State.checkChecksum_of_not_done hdone, State.raise_err, firstError_of_ne _ h]

/-- A recorded error outlives every command but INIT and VALIDATE. -/
theorem exec_keeps_recorded_err {i : Instr} {s t : State} (h : exec i s = .next t) (herr : s.err ≠ .noError) :
    i = .init ∨ i = .validate ∨ t.err = s.err := by
  obtain ⟨-, rfl⟩ | ⟨rfl, -⟩ | ⟨b, -, rfl⟩ | ⟨v, -, rfl⟩ | ⟨-, rfl⟩ | ⟨-, rfl⟩ | ⟨-, rfl⟩ | ⟨rfl, -⟩ |
    ⟨-, -, rfl, -⟩ := exec_next_cases h
  · exact .inr (.inr rfl)
  · exact .inl rfl
  · exact .inr (.inr (s.feedByte_err b))
  · exact .inr (.inr rfl)
  · exact .inr (.inr (State.checkChecksum_err_of_ne herr))
  · exact .inr (.inr rfl)
  · exact .inr (.inr rfl)
  · exact .inr (.inl rfl)
  · exact .inr (.inl rfl)

/-- Settles O5: INIT's writes bring DONE and STATUS to their values right after reset, and a recorded error outlives
every command but INIT and VALIDATE. -/
theorem initStartsChecksum : Obligations.InitStartsChecksum := by
  refine ⟨decode_encode .init, rfl, fun s => ⟨s.startChecksum.respondStatus, rfl, rfl, rfl, rfl, rfl, rfl, rfl,
    .of_respondStatus, fun hc => ⟨State.resetWith_done hc, State.resetWith_statusWord hc⟩⟩, ?_⟩
  intro i s t h herr hclear
  obtain hinit | hvalidate | hkept := exec_keeps_recorded_err h herr
  · exact .inl hinit
  · exact .inr hvalidate
  · exact absurd (hkept ▸ hclear) herr

/-! ### FEED -/

/-- FEED below CRC_LEN completes with the byte consumed. -/
theorem exec_feed_of_lt {s : State} (b : Byte) (h : s.count.toNat < s.cfg.crcLen) :
    exec (.feed b) s = .next (s.consumeByte b).respondStatus := by
  rw [← State.feedByte_of_lt b h]; rfl

/-- FEED from CRC_LEN on completes with the byte discarded. -/
theorem exec_feed_of_full {s : State} (b : Byte) (h : s.cfg.crcLen ≤ s.count.toNat) :
    exec (.feed b) s = .next s.discardByte.respondStatus := by
  rw [← State.feedByte_of_full b (Nat.not_lt.mpr h)]; rfl

/-- Settles O6: below CRC_LEN the byte is consumed and COUNT does not wrap, from CRC_LEN on the byte is discarded. -/
theorem feedConsumesOrDiscards : Obligations.FeedConsumesOrDiscards := by
  refine ⟨fun b => decode_encode (.feed b), fun p => crcStep_of_byte_eq_low p 0xFFFF#16, by decide,
    fun b s hc hlt => ?_, fun b s hfull => ?_⟩
  · have count_eq : (s.consumeByte b).respondStatus.count.toNat = s.count.toNat + 1 := State.count_succ hc hlt
    have done_iff : (s.consumeByte b).respondStatus.done = true ↔ s.count.toNat + 1 = s.cfg.crcLen := by
      rw [State.done_iff, count_eq]; rfl
    exact ⟨_, exec_feed_of_lt b hlt, rfl, count_eq, rfl, done_iff, rfl, rfl, rfl, .of_respondStatus⟩
  · exact ⟨_, exec_feed_of_full b hfull, ⟨rfl, rfl, rfl, rfl, rfl, rfl⟩, .of_respondStatus⟩

end Sys2Proof.Machine
end

section
/-! PROOFS. The compare and read-out commands: NOP (R100), LOADEXP (R101), CHECK (R102, R144), READCRC (R103) and
READSTATUS (R104). -/

namespace Sys2Proof.Machine

/-! ### The response -/

/-- A response changes no register. -/
theorem State.sameRegisters_respond (s : State) (w : Word) : (s.respond w).SameRegisters s :=
  ⟨rfl, rfl, rfl, rfl, rfl, rfl⟩

/-- A response of STATUS changes no register. -/
theorem State.sameRegisters_respondStatus (s : State) : s.respondStatus.SameRegisters s :=
  s.sameRegisters_respond s.statusWord

/-- The response word completes a command that writes no register. -/
theorem State.responds_respond (s : State) (w : Word) : s.Responds (s.respond w) w := ⟨rfl, rfl, rfl⟩

/-! ### CHECK -/

/-- CHECK at CRC_LEN completes with the comparison. -/
theorem exec_check_of_full {s : State} (h : s.count.toNat = s.cfg.crcLen) :
    exec .check s = .next s.judge.respondStatus := by
  rw [← State.checkChecksum_of_done (s.done_iff.mpr h)]; rfl

/-- CHECK at any other COUNT completes with INCOMPLETE raised. -/
theorem exec_check_of_not_full {s : State} (h : s.count.toNat ≠ s.cfg.crcLen) :
    exec .check s = .next (s.raise .incomplete).respondStatus := by
  have not_done : s.done = false := Bool.eq_false_iff.mpr fun hdone => h (s.done_iff.mp hdone)
  rw [← State.checkChecksum_of_not_done not_done]; rfl

/-- The comparison writes VERDICT only. -/
theorem State.sameRegisters_judge (s : State) : s.judge.SameRegisters { s with verdict := s.judge.verdict } :=
  ⟨rfl, rfl, rfl, rfl, rfl, rfl⟩

/-- An error raised writes ERR only. -/
theorem State.sameRegisters_raise (s : State) (e : CommandError) :
    (s.raise e).SameRegisters { s with err := (s.raise e).err } :=
  ⟨rfl, rfl, rfl, rfl, rfl, rfl⟩

/-- With no error recorded the one raised is recorded. -/
theorem State.raise_err_of_noError {s : State} (e : CommandError) (h : s.err = .noError) : (s.raise e).err = e := by
  rw [State.raise_err, h, firstError_noError]

/-- Settles O8: at CRC_LEN CHECK is the comparison, at any other COUNT it is INCOMPLETE raised. -/
theorem checkComparesOrRaises : Obligations.CheckComparesOrRaises := by
  refine ⟨decode_encode .check, fun s hfull => ?_, fun s hother => ?_⟩
  · exact ⟨s.judge.respondStatus, exec_check_of_full hfull, (compareVerdict_eq_accepted s.crc s.expect).mpr,
      (compareVerdict_eq_mismatch s.crc s.expect).mpr, s.sameRegisters_judge, .of_respondStatus⟩
  · exact ⟨(s.raise .incomplete).respondStatus, exec_check_of_not_full hother, State.raise_err_of_noError .incomplete,
      firstError_of_ne .incomplete, s.sameRegisters_raise .incomplete, .of_respondStatus⟩

/-! ### NOP, LOADEXP and READSTATUS -/

/-- Settles O4: NOP is the response of STATUS and no more. -/
theorem nopChangesNoRegister : Obligations.NopChangesNoRegister :=
  ⟨decode_encode .nop, fun s => ⟨s.respondStatus, rfl, s.sameRegisters_respondStatus, .of_respondStatus⟩⟩

/-- Settles O7: the HALF operand is read back from the word, and LOADEXP writes EXPECT and VERDICT only. -/
theorem loadexpLoadsExpect : Obligations.LoadexpLoadsExpect :=
  ⟨fun v => decode_encode (.loadexp v), fun v s =>
    ⟨(s.loadExpected v).respondStatus, rfl, (s.loadExpected v).sameRegisters_respondStatus, .of_respondStatus⟩⟩

/-- Settles O10: READSTATUS responds the STATUS word of the state it finds, and no register changes. -/
theorem readstatusReadsStatus : Obligations.ReadstatusReadsStatus :=
  ⟨decode_encode .readstatus, fun s =>
    ⟨s.respondStatus, rfl, s.sameRegisters_respondStatus, s.responds_respond s.statusWord⟩⟩

/-! ### READCRC -/

/-- Bits 15:0 of a zero-extended halfword are the halfword. -/
theorem zext32_low (v : Half) : (zext32 v).extractLsb' 0 16 = v := by
  rw [zext32, ← BitVec.setWidth_eq_extractLsb' (by omega), BitVec.setWidth_setWidth_of_le v (by omega),
    BitVec.setWidth_eq]

/-- Bits 31:16 of a zero-extended halfword are 0. -/
theorem zext32_high (v : Half) : (zext32 v).extractLsb' 16 16 = 0#16 := by
  ext i hi
  simp [zext32]

/-- Settles O9: READCRC responds the zero-extended CRC, and no register changes. -/
theorem readcrcReadsCrc : Obligations.ReadcrcReadsCrc :=
  ⟨decode_encode .readcrc, fun s => ⟨s.respond (zext32 s.crc), zext32 s.crc, rfl, s.sameRegisters_respond _,
    s.responds_respond _, zext32_low s.crc, zext32_high s.crc⟩⟩

end Sys2Proof.Machine
end

section
/-! PROOFS. VALIDATE: the length gate (R121), the judgement of a frame that passes it (R122, R124), and the streaming
commands with the same result (R125). -/

namespace Sys2Proof.Machine

/-! ### The reads of a frame -/

/-- The covered bytes are the ones at the offsets below CRC_LEN. -/
theorem Frame.coveredBytes?_eq_of_byte? {f : Frame} {n : Nat} {bs : List Byte} (hlen : bs.length = n)
    (hget : ∀ j < n, bs[j]? = f.byte? j) : f.coveredBytes? n = some bs :=
  Frame.bytes?_eq_of_byte? hlen (by simpa using hget)

/-- A frame that passes the length gate of an admitted configuration has every byte that VALIDATE reads. -/
theorem Frame.exists_bytes_of_admitted {f : Frame} {c : Config} (hc : c.Admitted)
    (hgate : c.headerFixedSize ≤ f.length) :
    ∃ (covered : List Byte) (lo hi : Byte), covered.length = c.crcLen ∧ (∀ j < c.crcLen, covered[j]? = f.byte? j) ∧
      f.byte? c.crcOffset = some lo ∧ f.byte? (c.crcOffset + 1) = some hi := by
  have hinside : c.crcOffset + 2 ≤ f.length := hc.crcOffset_le.trans hgate
  have hcrcLen := hc.crcLen_le
  obtain ⟨covered, hcovered⟩ := Frame.coveredBytes?_of_le (f := f) (n := c.crcLen) (by omega)
  obtain ⟨lo, hi, hlo, hhi, -⟩ := Frame.storedChecksum?_of_le hinside
  obtain ⟨hlen, hget⟩ := Frame.bytes?_spec hcovered
  exact ⟨covered, lo, hi, hlen, by simpa using hget, hlo, hhi⟩

/-! ### The two outcomes of VALIDATE -/

/-- VALIDATE of a short frame completes with INIT's writes and TRUNCATED, in any configuration. -/
theorem exec_validate_of_short {s : State} (h : s.framePort.length < s.cfg.headerFixedSize) :
    exec .validate s = .next s.startChecksum.markTruncated.respondStatus := execValidate_of_short h

/-- VALIDATE of a frame that passes the length gate and has the reads completes with what they read taken in. -/
theorem exec_validate_of_reads {s : State} {covered : List Byte} {stored : Half}
    (hgate : s.cfg.headerFixedSize ≤ s.framePort.length)
    (hcovered : s.framePort.coveredBytes? s.cfg.crcLen = some covered)
    (hstored : s.framePort.storedChecksum? s.cfg.crcOffset = some stored) :
    exec .validate s = .next (s.startChecksum.loadFrame covered stored).respondStatus := by
  rw [exec, execValidate, if_neg (Nat.not_lt.mpr hgate), hcovered, hstored]

/-- The same in terms of the frame's single bytes, as the statements give them. -/
theorem exec_validate_of_bytes {s : State} {covered : List Byte} {lo hi : Byte}
    (hgate : s.cfg.headerFixedSize ≤ s.framePort.length) (hlen : covered.length = s.cfg.crcLen)
    (hget : ∀ j < s.cfg.crcLen, covered[j]? = s.framePort.byte? j) (hlo : s.framePort.byte? s.cfg.crcOffset = some lo)
    (hhi : s.framePort.byte? (s.cfg.crcOffset + 1) = some hi) :
    exec .validate s = .next (s.startChecksum.loadFrame covered (hi ++ lo)).respondStatus :=
  exec_validate_of_reads hgate (Frame.coveredBytes?_eq_of_byte? hlen hget) (Frame.memRead_two hlo hhi)

/-- Settles O11: the frame is short, or it has the bytes that VALIDATE reads; the registers are those of INIT with
TRUNCATED, or of the bytes taken in. -/
theorem validateJudgesFrame : Obligations.ValidateJudgesFrame := by
  refine ⟨decode_encode .validate, fun s hshort => ?_, fun s hc hgate => ?_⟩
  · exact ⟨_, exec_validate_of_short hshort, rfl, rfl, rfl, rfl, rfl, rfl, State.resetWith_done, .of_respondStatus⟩
  · obtain ⟨covered, lo, hi, hlen, hget, hlo, hhi⟩ := Frame.exists_bytes_of_admitted hc hgate
    have hfull := hc.fullCount_toNat
    exact ⟨_, covered, lo, hi, exec_validate_of_bytes hgate hlen hget hlo hhi, hlen, hget, hlo, hhi, rfl, rfl, hfull,
      (State.done_iff _).mpr hfull, rfl, rfl, (compareVerdict_eq_accepted ..).mpr, (compareVerdict_eq_mismatch ..).mpr,
      .of_respondStatus⟩

/-- Settles O41: the verdict is that of the comparison of the two checksums. -/
theorem acceptedIffChecksumsEqual : Obligations.AcceptedIffChecksumsEqual := by
  intro s covered lo hi _ hgate hlen hget hlo hhi
  exact ⟨_, exec_validate_of_bytes hgate hlen hget hlo hhi, compareVerdict_eq_accepted ..,
    compareVerdict_eq_mismatch ..⟩

/-- The comparison never gives TRUNCATED. -/
theorem compareVerdict_ne_truncated (c e : Half) : compareVerdict c e ≠ .truncated := by
  obtain h | h := compareVerdict_cases c e <;> simp [h]

/-- Settles O42: only the short frame's outcome has TRUNCATED, since the other's verdict is a comparison's; and the
short frame's outcome speaks of no byte and no length of the frame. -/
theorem lengthGateDecidesTruncated : Obligations.LengthGateDecidesTruncated := by
  refine ⟨fun s hc => ?_, fun s w f g rest hf hg => ?_⟩
  · by_cases hshort : s.framePort.length < s.cfg.headerFixedSize
    · exact ⟨_, exec_validate_of_short hshort, fun _ => hshort, fun _ => rfl⟩
    · obtain ⟨covered, stored, -, -, hexec⟩ := execValidate_of_long hc hshort
      exact ⟨_, hexec, fun h => (compareVerdict_ne_truncated _ _ h).elim, fun h => absurd h hshort⟩
  · rw [exec_validate_of_short (by exact hf), exec_validate_of_short (by exact hg)]; rfl

/-! ### The streaming commands -/

/-- The first command runs first. -/
theorem execAll_cons {i : Instr} {is : List Instr} {s t : State} (h : exec i s = .next t) :
    execAll (i :: is) s = execAll is t := by
  rw [execAll, h]

/-- Commands in two parts run one part after the other. -/
theorem execAll_append {is js : List Instr} {s t : State} (h : execAll is s = .next t) :
    execAll (is ++ js) s = execAll js t := by
  induction is generalizing s with
  | nil => obtain rfl : s = t := by simpa [execAll] using h
           rfl
  | cons i is ih =>
    cases hi : exec i s with
    | next u =>
      rw [execAll_cons hi] at h
      exact (execAll_cons hi).trans (ih h)
    | fault r => simp [execAll, hi] at h
    | refused r => simp [execAll, hi] at h

/-- FEEDs that do not go past CRC_LEN fold their bytes into CRC and add their number to COUNT; of the other registers
they write VERDICT only. -/
theorem execAll_feeds {bs : List Byte} {s : State} (hc : s.cfg.Admitted)
    (hroom : s.count.toNat + bs.length ≤ s.cfg.crcLen) :
    ∃ t, execAll (bs.map .feed) s = .next t ∧ t.cfg = s.cfg ∧
      t.SameRegisters { s with
        crc := crcFold s.cfg.polyR s.crc bs, count := s.count + BitVec.ofNat 9 bs.length, verdict := t.verdict } := by
  induction bs generalizing s with
  | nil => exact ⟨s, rfl, rfl, rfl, rfl, (BitVec.add_zero s.count).symm, rfl, rfl, rfl⟩
  | cons b bs ih =>
    rw [List.length_cons] at hroom
    have hlt : s.count.toNat < s.cfg.crcLen := by omega
    have hcount : (s.consumeByte b).respondStatus.count.toNat = s.count.toNat + 1 := State.count_succ hc hlt
    have hroom' : (s.consumeByte b).respondStatus.count.toNat + bs.length ≤ s.cfg.crcLen := by omega
    obtain ⟨t, hrun, hcfg, hcrc, hexpect, hcnt, hoverrun, -, herr⟩ :=
      ih (s := (s.consumeByte b).respondStatus) hc hroom'
    refine ⟨t, ?_, hcfg, hcrc, hexpect, hcnt.trans ?_, hoverrun, rfl, herr⟩
    · exact (execAll_cons (exec_feed_of_lt b hlt)).trans hrun
    · show s.count + 1#9 + BitVec.ofNat 9 bs.length = s.count + BitVec.ofNat 9 (bs.length + 1)
      rw [BitVec.add_assoc, Nat.add_comm, BitVec.ofNat_add]

/-- States that agree in the registers and the configuration have the same STATUS. -/
theorem State.SameRegisters.statusWord_eq {s t : State} (h : s.SameRegisters t) (hcfg : s.cfg = t.cfg) :
    s.statusWord = t.statusWord := by
  obtain ⟨-, -, hcount, hoverrun, hverdict, herr⟩ := h
  simp only [State.statusWord, State.done, hcount, hoverrun, hverdict, herr, hcfg]

/-- INIT, CRC_LEN FEEDs, LOADEXP and CHECK end with STATUS, in a state whose registers are those of the same bytes and
checksum taken in at once. -/
theorem execAll_stream {s : State} {bs : List Byte} (v : Half) (hc : s.cfg.Admitted) (hlen : bs.length = s.cfg.crcLen) :
    ∃ u, execAll (.init :: (bs.map .feed ++ [.loadexp v, .check])) s = .next u.respondStatus ∧ u.cfg = s.cfg ∧
      (s.startChecksum.loadFrame bs v).SameRegisters u := by
  obtain ⟨t, hfeeds, hcfg, hcrc, -, hcount, hoverrun, -, herr⟩ :=
    execAll_feeds (s := s.startChecksum.respondStatus) (bs := bs) hc (by simp [hlen])
  have hcount : t.count = s.cfg.fullCount := by
    rw [hcount, hlen]
    exact BitVec.zero_add _
  have hfull : (t.loadExpected v).respondStatus.count.toNat = (t.loadExpected v).respondStatus.cfg.crcLen := by
    simpa [hcount, hcfg] using hc.fullCount_toNat
  refine ⟨(t.loadExpected v).respondStatus.judge, ?_, hcfg, hcrc.symm, rfl, hcount.symm, hoverrun.symm, ?_,
    herr.symm⟩
  · calc execAll (.init :: (bs.map .feed ++ [.loadexp v, .check])) s
      _ = execAll (bs.map .feed ++ [.loadexp v, .check]) s.startChecksum.respondStatus := execAll_cons rfl
      _ = execAll [.loadexp v, .check] t := execAll_append hfeeds
      _ = execAll [.check] (t.loadExpected v).respondStatus := execAll_cons rfl
      _ = .next (t.loadExpected v).respondStatus.judge.respondStatus := execAll_cons (exec_check_of_full hfull)
  · exact congrArg (compareVerdict · v) hcrc.symm

/-- Settles O44: both ways end with STATUS in the same registers; a short frame leaves INIT's registers but for
VERDICT. -/
theorem validateEqualsStreamingCommands : Obligations.ValidateEqualsStreamingCommands := by
  refine ⟨fun s bs v hc hgate hlen hget hstored => ?_, fun s hshort => ?_⟩
  · obtain ⟨u, hrun, hcfg, hsame⟩ := execAll_stream v hc hlen
    refine ⟨_, u.respondStatus,
      exec_validate_of_reads hgate (Frame.coveredBytes?_eq_of_byte? hlen hget) hstored, hrun, hsame, ?_⟩
    simp [hsame.statusWord_eq hcfg.symm]
  · exact ⟨_, _, exec_validate_of_short hshort, rfl, rfl, rfl, rfl, rfl, rfl, rfl⟩

end Sys2Proof.Machine
end

section
/-! PROOFS. The illegal command word (R143). -/

namespace Sys2Proof.Machine

/-- A word that matches no row of the opcode map is illegal, since a legal one matches its command's row. -/
theorem decode_error_of_no_row {w : Word} (h : ∀ r ∈ opcodeMap, rowMatches w r = false) :
    ∃ e, decode w = .error e := by
  cases hdec : decode w with
  | error e => exact ⟨e, rfl⟩
  | ok i =>
    obtain ⟨r, hr, -, hmatch⟩ := row_of_decode hdec
    simp [h r hr] at hmatch

/-- A step with an illegal word on the command port has the effect of R143. -/
theorem step_of_illegal {s : State} {w : Word} {f : Frame} {rest : List HostEvent} {e : IllegalWord}
    (hcfg : s.cfg.Admitted) (hin : s.inputs = .command w f :: rest) (hdec : decode w = .error e) :
    step s = .next s.illegalWord :=
  (step_of_command hcfg hin).trans (runCommand_of_error hdec)

/-- Settles O12: a word that matches no row does not decode, so the step is ILLEGAL raised, which writes ERR only and
keeps an error already recorded, and then the response STATUS. -/
theorem illegalWordRecordsError : Obligations.IllegalWordRecordsError := by
  intro s w f rest hcfg hin hrows
  obtain ⟨e, hdec⟩ := decode_error_of_no_row hrows
  exact ⟨s.illegalWord, step_of_illegal hcfg hin hdec, State.raise_err_of_noError .illegal,
    firstError_of_ne .illegal, s.sameRegisters_raise .illegal, s.responds_illegalWord⟩

end Sys2Proof.Machine
end

section
/-! PROOFS. The reset input (R170). -/

namespace Sys2Proof.Machine

/-- The reset input brings every register to its value right after reset, and only the ports tell the two states
apart. -/
theorem State.sameRegisters_resetInput (s : State) : s.resetInput.SameRegisters (State.resetWith s.cfg) :=
  ⟨rfl, rfl, rfl, rfl, rfl, rfl⟩

/-- Settles O2: the step with the reset input on the ports is the reset input's update, which has the registers of the
reset state and keeps the configuration. -/
theorem resetInputRestoresRegisters : Obligations.ResetInputRestoresRegisters := by
  intro s rest hcfg hin
  exact ⟨s.resetInput, step_of_reset hcfg hin, s.sameRegisters_resetInput, s.resetInput_cfg⟩

end Sys2Proof.Machine
end

section
/-! PROOFS. The round trip of the encoding, and the two kinds of illegal word (R68). -/

namespace Sys2Proof

/-- Settles O15: the two directions of the round trip. -/
theorem decodeEncodeAgree : Obligations.DecodeEncodeAgree :=
  ⟨fun i _ => decode_encode i, fun _ _ => encode_of_decode⟩

/-! ### The two kinds of illegal word -/

/-- Format N refuses a word for its must-be-zero bits only. -/
theorem decodeFormatN_ne_unassigned (w : Word) (i : Instr) : decodeFormatN w i ≠ .error .unassignedOpcode := by
  unfold decodeFormatN; split <;> simp

/-- Format B refuses a word for its must-be-zero bits only. -/
theorem decodeFormatB_ne_unassigned (w : Word) (mk : Byte → Instr) :
    decodeFormatB w mk ≠ .error .unassignedOpcode := by
  unfold decodeFormatB; split <;> simp

/-- Format H refuses a word for its must-be-zero bits only. -/
theorem decodeFormatH_ne_unassigned (w : Word) (mk : Half → Instr) :
    decodeFormatH w mk ≠ .error .unassignedOpcode := by
  unfold decodeFormatH; split <;> simp

/-- A word whose OP is none of the eight has OP 0x08 or more. -/
theorem op_ge_of_unassigned : ∀ op : Byte, op ≠ 0x00#8 → op ≠ 0x01#8 → op ≠ 0x02#8 → op ≠ 0x03#8 → op ≠ 0x04#8 →
    op ≠ 0x05#8 → op ≠ 0x06#8 → op ≠ 0x07#8 → 0x08#8 ≤ op := by
  intro op
  bv_omega

/-- A word is refused for its opcode iff OP is 0x08 or more: every smaller OP has a format, and no format refuses for
the opcode. -/
theorem decode_eq_unassigned_iff (w : Word) : decode w = .error .unassignedOpcode ↔ 0x08#8 ≤ opField w := by
  constructor
  · intro h
    unfold decode at h
    split_ifs at h with nop init feed loadexp check readcrc readstatus validate
    · exact (decodeFormatN_ne_unassigned _ _ h).elim
    · exact (decodeFormatN_ne_unassigned _ _ h).elim
    · exact (decodeFormatB_ne_unassigned _ _ h).elim
    · exact (decodeFormatH_ne_unassigned _ _ h).elim
    · exact (decodeFormatN_ne_unassigned _ _ h).elim
    · exact (decodeFormatN_ne_unassigned _ _ h).elim
    · exact (decodeFormatN_ne_unassigned _ _ h).elim
    · exact (decodeFormatN_ne_unassigned _ _ h).elim
    · exact op_ge_of_unassigned _ nop init feed loadexp check readcrc readstatus validate
  · intro h
    have op_ne : ∀ op : Byte, op < 0x08#8 → opField w ≠ op := fun op hop heq => by
      rw [heq] at h
      exact absurd hop (BitVec.not_lt.mpr h)
    simp [decode, op_ne]

/-- A word is refused for a must-be-zero bit iff OP is below 0x08 and no row matches: an illegal word is of one kind or
the other, and a word that matches a row is legal. -/
theorem decode_eq_mustBeZero_iff (w : Word) : decode w = .error .mustBeZeroBitSet ↔
    opField w < 0x08#8 ∧ ∀ r ∈ opcodeMap, rowMatches w r = false := by
  rw [← BitVec.not_le, ← decode_eq_unassigned_iff]
  constructor
  · intro h
    refine ⟨by simp [h], fun r hr => Bool.eq_false_iff.mpr fun hmatch => ?_⟩
    obtain ⟨i, hi⟩ := decode_of_rowMatches hr hmatch
    simp [h] at hi
  · rintro ⟨hop, hrows⟩
    obtain ⟨e, he⟩ := Machine.decode_error_of_no_row hrows
    cases e with
    | unassignedOpcode => exact absurd he hop
    | mustBeZeroBitSet => exact he

/-- Settles O17: the two equivalences. -/
theorem illegalWordsAreOfTwoKinds : Obligations.IllegalWordsAreOfTwoKinds :=
  fun w => ⟨decode_eq_unassigned_iff w, decode_eq_mustBeZero_iff w⟩

/-- Settles O18: the legal words are those of their commands, and the two illegal ones have OP 0x02 with no matching row
and OP 0x09. -/
theorem wordsFromTheSpecDecode : Obligations.WordsFromTheSpecDecode :=
  ⟨decode_encode .nop, decode_encode .init, decode_encode (.feed 0xFF#8), decode_encode (.loadexp 0xFFFF#16),
    decode_encode .check, decode_encode .readcrc, decode_encode .readstatus, decode_encode .validate,
    (decode_eq_mustBeZero_iff _).mpr (by decide), (decode_eq_unassigned_iff _).mpr (by decide)⟩

end Sys2Proof
end

section
/-! PROOFS. The assembler's lines (R71) and pseudo-instructions (R72). -/

namespace Sys2Proof.Machine

/-- A line with every value in range stands for its words. -/
theorem assembleLine_of_wf {l : AsmLine} (h : l.wf = true) : assembleLine l = some (expandLine l) := if_pos h

/-- A line with a value out of range is refused. -/
theorem assembleLine_of_not_wf {l : AsmLine} (h : l.wf = false) : assembleLine l = none := by
  simp [assembleLine, h]

/-- A number below 256 is the same value as a byte and as a word. -/
theorem setWidth_ofNat_byte {n : Nat} (h : n ≤ 255) : (BitVec.ofNat 8 n).setWidth 32 = BitVec.ofNat 32 n := by
  apply BitVec.eq_of_toNat_eq
  simp only [BitVec.toNat_setWidth, BitVec.toNat_ofNat]
  omega

/-- A number below 65536 is the same value as a halfword and as a word. -/
theorem setWidth_ofNat_half {n : Nat} (h : n ≤ 65535) : (BitVec.ofNat 16 n).setWidth 32 = BitVec.ofNat 32 n := by
  apply BitVec.eq_of_toNat_eq
  simp only [BitVec.toNat_setWidth, BitVec.toNat_ofNat]
  omega

/-- FEED's word has an imm8 in its low bits. -/
theorem encode_feed_ofNat {n : Nat} (h : n ≤ 255) :
    encode (.feed (BitVec.ofNat 8 n)) = 0x02000000#32 ||| BitVec.ofNat 32 n := by
  rw [← setWidth_ofNat_byte h]; rfl

/-- LOADEXP's word has an imm16 in its low bits. -/
theorem encode_loadexp_ofNat {n : Nat} (h : n ≤ 65535) :
    encode (.loadexp (BitVec.ofNat 16 n)) = 0x03000000#32 ||| BitVec.ofNat 32 n := by
  rw [← setWidth_ofNat_half h]; rfl

/-- Settles O19: a line in range emits its command's word, whose operand stands in the low bits, and `.word` emits the
word given; a line out of range is refused by the check. -/
theorem assemblerEmitsRuleWords : Obligations.AssemblerEmitsRuleWords := by
  refine ⟨rfl, rfl, fun n h => ?_, fun n h => ?_, fun n h => ?_, fun n h => ?_, rfl, rfl, rfl, rfl,
    fun n h => ?_, fun n h => ?_⟩
  · rw [← encode_feed_ofNat h]
    exact assembleLine_of_wf (decide_eq_true h)
  · exact assembleLine_of_not_wf (decide_eq_false (Nat.not_le.mpr h))
  · rw [← encode_loadexp_ofNat h]
    exact assembleLine_of_wf (decide_eq_true h)
  · exact assembleLine_of_not_wf (decide_eq_false (Nat.not_le.mpr h))
  · exact assembleLine_of_wf (decide_eq_true h)
  · exact assembleLine_of_not_wf (decide_eq_false (Nat.not_lt.mpr h))

/-- FEEDS is checked by its bytes, of which there is at least one. -/
theorem feeds_wf {ns : List Nat} (hne : ns ≠ []) (hrange : ∀ n ∈ ns, n ≤ 255) : (AsmLine.feeds ns).wf = true := by
  simpa [AsmLine.wf, imm8InRange, hne] using hrange

/-- Settles O20: FEEDS is the FEED words of its bytes in order, FEEDZ copies of one word, VERIFY the words of LOADEXP
and CHECK. -/
theorem pseudoInstructionsExpand : Obligations.PseudoInstructionsExpand := by
  refine ⟨fun ns hne hrange => ?_, fun n => rfl, fun n h => ?_⟩
  · rw [assembleLine_of_wf (feeds_wf hne hrange)]
    exact congrArg some (List.map_congr_left fun n hn => encode_feed_ofNat (hrange n hn))
  · rw [← encode_loadexp_ofNat h]
    exact assembleLine_of_wf (decide_eq_true h)

end Sys2Proof.Machine
end

section
/-! PROOFS. The step: when it waits, which command it runs, and when it stops (R145, R172). -/

namespace Sys2Proof.Machine

/-- Settles O3: the step of an idle block. -/
theorem idleBlockWaits : Obligations.IdleBlockWaits := fun _ => step_of_idle

/-- A step with a legal word on the command port is the effect of its command. -/
theorem step_of_decoded {s : State} {w : Word} {f : Frame} {rest : List HostEvent} {i : Instr} (hcfg : s.cfg.Admitted)
    (hin : s.inputs = .command w f :: rest) (hdec : decode w = .ok i) : step s = exec i s :=
  (step_of_command hcfg hin).trans (runCommand_of_ok hdec)

/-- Settles O13: the step of a legal word; no command fails its check. -/
theorem stepRunsDecodedCommand : Obligations.StepRunsDecodedCommand :=
  fun _ _ _ _ _ hcfg hin hdec _ => step_of_decoded hcfg hin hdec

/-- A table row that is read as a command gives the decoder that command's word. -/
theorem decode_tableWord {nbits w : Nat} {i : Instr} (h : decodeTableWord nbits w = some i) :
    decode (tableWord nbits w) = .ok i := by
  unfold decodeTableWord at h
  cases hdec : decode (tableWord nbits w) with
  | ok j => simpa [hdec, Except.toOption] using h
  | error e => simp [hdec, Except.toOption] at h

/-- Settles O14: the word presented stands on the command port, and the configuration is as before. -/
theorem presentedWordRunsNext : Obligations.PresentedWordRunsNext := by
  intro s nbits w i hcfg hrow
  obtain ⟨f, rest, hin⟩ := s.presentWord_inputs_head (tableWord nbits w)
  exact step_of_decoded (s := s.withFetchWord nbits w) (by simpa [State.withFetchWord] using hcfg) hin
    (decode_tableWord hrow)

/-- In an admitted configuration every step goes on: every event has a result, and every command completes. -/
theorem step_goesOn {s : State} (hcfg : s.cfg.Admitted) : GoesOn (step s) := by
  match hin : s.inputs with
  | [] => exact ⟨_, step_of_idle hcfg hin⟩
  | .reset :: _ => exact ⟨_, step_of_reset hcfg hin⟩
  | .command w _ :: _ =>
    cases hdec : decode w with
    | ok i => exact step_of_decoded hcfg hin hdec ▸ exec_goesOn hcfg i
    | error e => exact ⟨_, step_of_illegal hcfg hin hdec⟩

/-- Settles O25: the spec's two configurations meet every constraint, and no step of an admitted one stops. -/
theorem admittedBlockNeverStops : Obligations.AdmittedBlockNeverStops :=
  ⟨Config.spec_admitted, by decide, fun _ => step_goesOn⟩

/-- Settles O26: each of the broken constraints is one that an admitted configuration meets. -/
theorem unadmittedConfigurationIsRefused : Obligations.UnadmittedConfigurationIsRefused := by
  intro s broken
  refine if_neg fun hcfg => ?_
  have crcLen_lt := hcfg.crcLen_lt
  have crcLen_pos := hcfg.crcLen_pos
  have crcLen_le := hcfg.crcLen_le
  have crcOffset_le := hcfg.crcOffset_le
  have crcXorOut_eq := hcfg.crcXorOut_eq
  obtain ⟨⟨crcWidth, tableSize, countWidth, commandWidth, responseWidth⟩, -, -⟩ := hcfg
  obtain h | h | h | h | h | h | h | h | h | h := broken
  · omega
  · omega
  · exact h crcWidth
  · exact h tableSize
  · exact h countWidth
  · exact h commandWidth
  · exact h responseWidth
  · omega
  · omega
  · exact h crcXorOut_eq

end Sys2Proof.Machine
end

section
/-! PROOFS. The whole-machine rules: which command writes which register (R35), which registers are sticky (R23, R146,
R147), and the invariants at reset (R171). -/

namespace Sys2Proof.Machine

/-- Settles O24: the reset state has no verdict and COUNT 0. -/
theorem invariantHoldsAtReset : Obligations.InvariantHoldsAtReset :=
  have inv_resetWith (c : Config) : (State.resetWith c).Inv := State.Inv.of_noVerdict (Nat.zero_le _) rfl
  ⟨inv_resetWith Config.spec, inv_resetWith⟩

/-! ### What a step makes of the configuration and of the host's events -/

/-- A step keeps the configuration (R173). -/
theorem step_cfg {s t : State} (h : step s = .next t) : t.cfg = s.cfg := by
  obtain ⟨-, ⟨-, rfl⟩ | ⟨-, -, rfl⟩ | ⟨-, -, -, i, -, -, hexec⟩ | ⟨-, -, -, -, -, -, rfl⟩⟩ := step_next_cases h
  · rfl
  · rfl
  · obtain ⟨-, -, hcfg⟩ := exec_responds hexec
    exact hcfg
  · rfl

/-- A command that completes takes its event off the host's list. -/
theorem exec_inputs {i : Instr} {s t : State} (h : exec i s = .next t) : t.inputs = s.inputs.tail := by
  obtain ⟨-, hin, -⟩ := exec_responds h
  exact hin

/-- A step takes the host's next event, where there is one, off the list. -/
theorem step_inputs {s t : State} (h : step s = .next t) : t.inputs = s.inputs.tail := by
  obtain ⟨-, ⟨hin, rfl⟩ | ⟨-, -, rfl⟩ | ⟨-, -, -, i, -, -, hexec⟩ | ⟨-, -, -, -, -, -, rfl⟩⟩ := step_next_cases h
  · rw [hin]; rfl
  · rfl
  · exact exec_inputs hexec
  · rfl

/-! ### The writes of the commands -/

/-- Settles O27: for each command, the registers that it does not name are those of the state before; and the
configuration is kept. -/
theorem onlyNamedCommandsWriteRegisters : Obligations.OnlyNamedCommandsWriteRegisters := by
  refine ⟨fun i s t h => ?_, fun s t => step_cfg⟩
  obtain ⟨rfl, rfl⟩ | ⟨rfl, rfl⟩ | ⟨b, rfl, rfl⟩ | ⟨v, rfl, rfl⟩ | ⟨rfl, rfl⟩ | ⟨rfl, rfl⟩ | ⟨rfl, rfl⟩ |
    ⟨rfl, -, rfl⟩ | ⟨covered, stored, rfl, -⟩ := exec_next_cases h
  · simp
  · simp
  · simp
  · simp
  · simp
  · simp
  · simp
  · simp
  · simp

/-! ### The sticky registers -/

/-- OVERRUN once set outlives every command but INIT and VALIDATE. -/
theorem exec_keeps_overrun {i : Instr} {s t : State} (h : exec i s = .next t) (hset : s.overrun = true) :
    i = .init ∨ i = .validate ∨ t.overrun = true := by
  obtain ⟨-, rfl⟩ | ⟨rfl, -⟩ | ⟨b, -, rfl⟩ | ⟨v, -, rfl⟩ | ⟨-, rfl⟩ | ⟨-, rfl⟩ | ⟨-, rfl⟩ | ⟨rfl, -⟩ |
    ⟨-, -, rfl, -⟩ := exec_next_cases h
  · exact .inr (.inr hset)
  · exact .inl rfl
  · refine .inr (.inr ?_)
    by_cases hlt : s.count.toNat < s.cfg.crcLen
    · rwa [State.feedByte_of_lt b hlt]
    · rw [State.feedByte_of_full b hlt]; rfl
  · exact .inr (.inr hset)
  · exact .inr (.inr (s.checkChecksum_overrun.trans hset))
  · exact .inr (.inr hset)
  · exact .inr (.inr hset)
  · exact .inr (.inl rfl)
  · exact .inr (.inl rfl)

/-- INIT and VALIDATE clear ERR and OVERRUN. -/
theorem exec_clears_sticky {i : Instr} {s t : State} (h : exec i s = .next t) (hi : i = .init ∨ i = .validate) :
    t.err = .noError ∧ t.overrun = false := by
  obtain ⟨rfl, rfl⟩ | ⟨rfl, rfl⟩ | ⟨b, rfl, rfl⟩ | ⟨v, rfl, rfl⟩ | ⟨rfl, rfl⟩ | ⟨rfl, rfl⟩ | ⟨rfl, rfl⟩ |
    ⟨rfl, -, rfl⟩ | ⟨covered, stored, rfl, -, -, -, rfl⟩ := exec_next_cases h
  · simp at hi
  · exact ⟨rfl, rfl⟩
  · simp at hi
  · simp at hi
  · simp at hi
  · simp at hi
  · simp at hi
  · exact ⟨rfl, rfl⟩
  · exact ⟨rfl, rfl⟩

/-- `t` has lost a sticky value of `s`: a recorded error changed, or OVERRUN was cleared. -/
def State.LosesSticky (s t : State) : Prop :=
  s.err ≠ .noError ∧ t.err ≠ s.err ∨ s.overrun = true ∧ t.overrun = false

/-- No sticky value is lost where a recorded error and OVERRUN are kept. -/
theorem State.not_losesSticky {s t : State} (err : s.err ≠ .noError → t.err = s.err)
    (overrun : s.overrun = true → t.overrun = true) : ¬ s.LosesSticky t := by
  rintro (⟨hne, hchanged⟩ | ⟨hset, hcleared⟩)
  · exact hchanged (err hne)
  · simp [overrun hset] at hcleared

/-- Of the commands only INIT and VALIDATE lose a sticky value. -/
theorem init_or_validate_of_losesSticky {i : Instr} {s t : State} (h : exec i s = .next t) (hloss : s.LosesSticky t) :
    i = .init ∨ i = .validate := by
  by_contra hother
  rw [not_or] at hother
  obtain ⟨hinit, hvalidate⟩ := hother
  refine State.not_losesSticky (fun herr => ?_) (fun hset => ?_) hloss
  · exact ((exec_keeps_recorded_err h herr).resolve_left hinit).resolve_left hvalidate
  · exact ((exec_keeps_overrun h hset).resolve_left hinit).resolve_left hvalidate

/-- Settles O28: a wait and an illegal word lose no sticky value, the reset input clears both, and a command that loses
one is INIT or VALIDATE, which clear both and have one word each. -/
theorem errorsAndOverrunAreSticky : Obligations.ErrorsAndOverrunAreSticky := by
  intro s t h hloss
  obtain ⟨-, ⟨-, rfl⟩ | ⟨rest, hin, rfl⟩ | ⟨w, f, rest, i, hin, hdec, hexec⟩ | ⟨-, -, -, -, -, -, rfl⟩⟩ :=
    step_next_cases h
  · exact absurd hloss (State.not_losesSticky (fun _ => rfl) id)
  · exact ⟨rfl, rfl, .inl ⟨rest, hin⟩⟩
  · have hi := init_or_validate_of_losesSticky hexec hloss
    obtain ⟨herr, hoverrun⟩ := exec_clears_sticky hexec hi
    obtain rfl := encode_of_decode hdec
    obtain rfl | rfl := hi
    · exact ⟨herr, hoverrun, .inr (.inl ⟨f, rest, hin⟩)⟩
    · exact ⟨herr, hoverrun, .inr (.inr ⟨f, rest, hin⟩)⟩
  · exact absurd hloss (State.not_losesSticky (firstError_of_ne .illegal) id)

end Sys2Proof.Machine
end

section
/-! PROOFS. The frames: no step writes one (R43), and the canonical form is kept and unique. -/

namespace Sys2Proof.Machine

/-- When the next event is off the list, each later frame has moved up by one place, its bytes as before. -/
theorem State.offeredByte?_of_tail {s t : State} (h : t.inputs = s.inputs.tail) (k a : Nat) :
    t.offeredByte? k a = s.offeredByte? (k + 1) a := by
  rw [State.offeredByte?, State.offeredByte?, h, List.getElem?_tail]

/-- Settles O29: a step and a command take one event off the list and leave the others. -/
theorem noStepWritesAFrame : Obligations.NoStepWritesAFrame := by
  refine ⟨fun s t k a _ h => State.offeredByte?_of_tail (step_inputs h) k a, fun s t k a hidle h => ?_,
    fun i s t k a h => State.offeredByte?_of_tail (exec_inputs h) k a⟩
  have same : t.inputs = s.inputs := by rw [step_inputs h, hidle]; rfl
  rw [State.offeredByte?, State.offeredByte?, same]

/-- A step keeps the frames canonical, since it adds none. -/
theorem framesWf_of_step {s t : State} (hs : s.framesWf = true) (h : step s = .next t) : t.framesWf = true := by
  rw [State.framesWf, List.all_eq_true] at hs ⊢
  rw [step_inputs h]
  exact fun e he => hs e (List.mem_of_mem_tail he)

/-- An offset that no cell has holds the unlisted byte. -/
theorem Memory.read_of_unlisted {m : Memory} {a : Nat} (h : ∀ c ∈ m, c.1 ≠ a) : m.read a = unlistedByte := by
  induction m with
  | nil => rfl
  | cons c m ih =>
    obtain ⟨x, b⟩ := c
    rw [Memory.read, if_neg (h (x, b) List.mem_cons_self)]
    exact ih fun c hc => h c (List.mem_cons_of_mem _ hc)

/-- The first cell of a canonical list: its byte is listed, and every other offset is above it. -/
theorem Memory.wfFrom_cons {k x : Nat} {b : Byte} {m : Memory} (h : Memory.wfFrom k ((x, b) :: m) = true) :
    b ≠ unlistedByte ∧ Memory.wfFrom (x + 1) m = true := by
  simp only [Memory.wfFrom, Bool.and_eq_true, decide_eq_true_eq] at h
  obtain ⟨⟨-, hb⟩, hm⟩ := h
  exact ⟨hb, hm⟩

/-- Where a list of cells is read as the canonical list beginning at `x`, its own first cell is not above `x`. -/
theorem Memory.head_le_of_read_eq {k l x y : Nat} {b c : Byte} {m n : Memory}
    (hm : Memory.wfFrom k ((x, b) :: m) = true) (hn : Memory.wfFrom l ((y, c) :: n) = true)
    (hread : Memory.read ((x, b) :: m) x = Memory.read ((y, c) :: n) x) : y ≤ x := by
  obtain ⟨hb, -⟩ := Memory.wfFrom_cons hm
  obtain ⟨-, hrest⟩ := Memory.wfFrom_cons hn
  by_contra hlt
  have unlisted : Memory.read ((y, c) :: n) x = unlistedByte := by
    rw [Memory.read, if_neg (by omega)]
    exact Memory.read_of_lt n hrest (by omega)
  have listed : Memory.read ((x, b) :: m) x = b := if_pos rfl
  exact hb (listed.symm.trans (hread.trans unlisted))

/-- A canonical list of cells is determined by its bytes: the first listed offset, and the byte there, are those of the
first byte that is not the unlisted one, and so on. -/
theorem Memory.eq_of_read_eq {m : Memory} : ∀ {k l : Nat} {n : Memory}, Memory.wfFrom k m = true →
    Memory.wfFrom l n = true → (∀ a, m.read a = n.read a) → m = n := by
  induction m with
  | nil =>
    intro k l n _ hn hread
    cases n with
    | nil => rfl
    | cons d n =>
      obtain ⟨y, c⟩ := d
      obtain ⟨hc, -⟩ := Memory.wfFrom_cons hn
      exact absurd (by simpa [Memory.read] using (hread y).symm) hc
  | cons d m ih =>
    obtain ⟨x, b⟩ := d
    intro k l n hm hn hread
    obtain ⟨hb, hm'⟩ := Memory.wfFrom_cons hm
    cases n with
    | nil => exact absurd (by simpa [Memory.read] using hread x) hb
    | cons e n =>
      obtain ⟨y, c⟩ := e
      obtain ⟨-, hn'⟩ := Memory.wfFrom_cons hn
      obtain rfl : x = y := Nat.le_antisymm (Memory.head_le_of_read_eq hn hm (hread y).symm)
        (Memory.head_le_of_read_eq hm hn (hread x))
      obtain rfl : b = c := by simpa [Memory.read] using hread x
      rw [ih hm' hn' fun a => ?_]
      by_cases ha : x = a
      · rw [Memory.read_of_lt m hm' (by omega), Memory.read_of_lt n hn' (by omega)]
      · simpa [Memory.read, ha] using hread a

/-- A canonical frame's cells hold the unlisted byte past its end. -/
theorem Frame.read_of_length_le {f : Frame} {a : Nat} (hf : f.wf = true) (ha : f.length ≤ a) :
    f.cells.read a = unlistedByte := by
  simp only [Frame.wf, Bool.and_eq_true, List.all_eq_true, decide_eq_true_eq] at hf
  obtain ⟨-, hinside⟩ := hf
  exact Memory.read_of_unlisted fun c hc => by have := hinside c hc; omega

/-- Two canonical frames of one length with the same bytes are equal: their cells are read alike, inside and past the
end. -/
theorem Frame.eq_of_byte?_eq {f g : Frame} (hf : f.wf = true) (hg : g.wf = true) (hlen : f.length = g.length)
    (hbyte : ∀ a, f.byte? a = g.byte? a) : f = g := by
  have hread : ∀ a, f.cells.read a = g.cells.read a := fun a => by
    rcases Nat.lt_or_ge a f.length with hin | hout
    · simpa [Frame.byte?, hin, hlen ▸ hin] using hbyte a
    · rw [Frame.read_of_length_le hf hout, Frame.read_of_length_le hg (hlen ▸ hout)]
  obtain ⟨hfcells, -⟩ := Bool.and_eq_true_iff.mp hf
  obtain ⟨hgcells, -⟩ := Bool.and_eq_true_iff.mp hg
  have hcells : f.cells = g.cells := Memory.eq_of_read_eq hfcells hgcells hread
  match f, g, hlen, hcells with
  | ⟨_, _⟩, ⟨_, _⟩, rfl, rfl => rfl

/-- Settles O30: no step adds a frame, and the canonical form is unique. -/
theorem framesStayCanonical : Obligations.FramesStayCanonical :=
  ⟨fun _ _ => framesWf_of_step, fun _ _ => Frame.eq_of_byte?_eq⟩

end Sys2Proof.Machine
end

section
/-! PROOFS. The bytes consumed since the last restart: what each event makes of them, and that CRC and COUNT follow
(R20, R22, R29). -/

namespace Sys2Proof.Machine

/-! ### What an event makes of the consumed bytes -/

section
variable {s : State} {w : Word} {f : Frame} {rest : List HostEvent} (bs : List Byte)

/-- A wait consumes nothing. -/
theorem State.consumedAfter_of_idle (hin : s.inputs = []) : s.consumedAfter bs = bs := by
  simp [State.consumedAfter, hin]

/-- The reset input starts with no byte. -/
theorem State.consumedAfter_of_reset (hin : s.inputs = .reset :: rest) : s.consumedAfter bs = [] := by
  simp [State.consumedAfter, hin]

/-- An illegal word consumes nothing. -/
theorem State.consumedAfter_of_illegal {e : IllegalWord} (hin : s.inputs = .command w f :: rest)
    (hdec : decode w = .error e) : s.consumedAfter bs = bs := by
  simp [State.consumedAfter, hin, hdec]

/-- INIT starts with no byte. -/
theorem State.consumedAfter_of_init (hin : s.inputs = .command w f :: rest) (hdec : decode w = .ok .init) :
    s.consumedAfter bs = [] := by
  simp [State.consumedAfter, hin, hdec]

/-- FEED adds its byte at the end, as long as there is room. -/
theorem State.consumedAfter_of_feed {b : Byte} (hin : s.inputs = .command w f :: rest)
    (hdec : decode w = .ok (.feed b)) :
    s.consumedAfter bs = if bs.length < s.cfg.crcLen then bs ++ [b] else bs := by
  simp [State.consumedAfter, hin, hdec]

/-- VALIDATE takes the covered bytes of the frame on the port, or none if it is short. -/
theorem State.consumedAfter_of_validate (hin : s.inputs = .command w f :: rest) (hdec : decode w = .ok .validate) :
    s.consumedAfter bs = if s.framePort.length < s.cfg.headerFixedSize then []
      else (s.framePort.coveredBytes? s.cfg.crcLen).getD [] := by
  simp [State.consumedAfter, State.framePort, HostEvent.frame, hin, hdec]

/-- Every other command leaves the consumed bytes as they are. -/
theorem State.consumedAfter_of_other {i : Instr} (hin : s.inputs = .command w f :: rest) (hdec : decode w = .ok i)
    (init : i ≠ .init) (feed : ∀ b, i ≠ .feed b) (validate : i ≠ .validate) : s.consumedAfter bs = bs := by
  cases i with
  | init | feed _ | validate => simp_all
  | nop | loadexp _ | check | readcrc | readstatus => simp [State.consumedAfter, hin, hdec]

end

/-! ### What the register writes make of CRC and COUNT -/

/-- The other registers and the ports have no part in what CRC and COUNT describe. -/
theorem State.Consumed.of_same {s t : State} {bs : List Byte} (hs : s.Consumed bs) (cfg : t.cfg = s.cfg := by simp)
    (crc : t.crc = s.crc := by simp) (count : t.count = s.count := by simp) : t.Consumed bs := by
  obtain ⟨hcrc, hcount⟩ := hs
  exact ⟨by rw [crc, cfg, hcrc], by rw [count, hcount]⟩

/-- CRC_INIT in CRC and 0 in COUNT describe no byte. -/
theorem State.consumed_nil {s : State} (crc : s.crc = s.cfg.crcInit := by simp) (count : s.count = 0#9 := by simp) :
    s.Consumed [] := ⟨crc, by rw [count]; rfl⟩

/-- A FEED's writes describe its byte after the others below CRC_LEN, and the same bytes from CRC_LEN on. -/
theorem State.Consumed.feedByte {s : State} {bs : List Byte} (hs : s.Consumed bs) (hcfg : s.cfg.Admitted) (b : Byte) :
    (s.feedByte b).Consumed (if bs.length < s.cfg.crcLen then bs ++ [b] else bs) := by
  obtain ⟨hcrc, hcount⟩ := hs
  split
  · next hroom =>
      have hlt : s.count.toNat < s.cfg.crcLen := hcount ▸ hroom
      rw [State.feedByte_of_lt b hlt]
      refine ⟨?_, ?_⟩
      · rw [State.consumeByte_crc, State.consumeByte_cfg, crc16_append_singleton, hcrc]
      · rw [State.consumeByte_count, State.count_succ hcfg hlt, hcount, List.length_append, List.length_singleton]
  · next hfull =>
      rw [State.feedByte_of_full b (hcount ▸ hfull)]
      exact State.Consumed.of_same ⟨hcrc, hcount⟩

/-- A frame taken in after INIT's writes is described by its covered bytes. -/
theorem State.consumed_loadFrame {s : State} {covered : List Byte} (hcfg : s.cfg.Admitted)
    (hcov : s.framePort.coveredBytes? s.cfg.crcLen = some covered) (stored : Half) :
    (s.startChecksum.loadFrame covered stored).Consumed covered :=
  ⟨rfl, hcfg.fullCount_toNat.trans (Frame.bytes?_spec hcov).1.symm⟩

/-- A command that consumes nothing, and writes neither CRC nor COUNT, leaves them describing the same bytes. -/
theorem State.Consumed.of_other {s t : State} {bs : List Byte} {w : Word} {f : Frame} {rest : List HostEvent}
    {i : Instr} (hs : s.Consumed bs) (hin : s.inputs = .command w f :: rest) (hdec : decode w = .ok i)
    (init : i ≠ .init := by simp) (feed : ∀ b, i ≠ .feed b := by simp) (validate : i ≠ .validate := by simp)
    (cfg : t.cfg = s.cfg := by simp) (crc : t.crc = s.crc := by simp) (count : t.count = s.count := by simp) :
    t.Consumed (s.consumedAfter bs) := by
  rw [State.consumedAfter_of_other bs hin hdec init feed validate]
  exact hs.of_same cfg crc count

/-- A command on the port that completes leaves CRC and COUNT describing what `consumedAfter` says. -/
theorem State.Consumed.of_exec {s t : State} {bs : List Byte} {w : Word} {f : Frame} {rest : List HostEvent}
    {i : Instr} (hs : s.Consumed bs) (hcfg : s.cfg.Admitted) (hin : s.inputs = .command w f :: rest)
    (hdec : decode w = .ok i) (h : exec i s = .next t) : t.Consumed (s.consumedAfter bs) := by
  obtain ⟨rfl, rfl⟩ | ⟨rfl, rfl⟩ | ⟨b, rfl, rfl⟩ | ⟨v, rfl, rfl⟩ | ⟨rfl, rfl⟩ | ⟨rfl, rfl⟩ | ⟨rfl, rfl⟩ |
    ⟨rfl, hshort, rfl⟩ | ⟨covered, stored, rfl, hlong, hcov, -, rfl⟩ := exec_next_cases h
  · exact hs.of_other hin hdec
  · rw [State.consumedAfter_of_init bs hin hdec]
    exact State.consumed_nil
  · rw [State.consumedAfter_of_feed bs hin hdec]
    exact (hs.feedByte hcfg b).of_same
  · exact hs.of_other hin hdec
  · exact hs.of_other hin hdec
  · exact hs.of_other hin hdec
  · exact hs.of_other hin hdec
  · rw [State.consumedAfter_of_validate bs hin hdec, if_pos hshort]
    exact State.consumed_nil
  · rw [State.consumedAfter_of_validate bs hin hdec, if_neg hlong, hcov]
    exact (State.consumed_loadFrame hcfg hcov stored).of_same

/-- Settles O46: a wait and an illegal word leave CRC and COUNT alone, reset starts again, and a command follows the
bytes that it consumes; DONE compares their number with CRC_LEN. -/
theorem stepKeepsChecksumOfConsumedBytes : Obligations.StepKeepsChecksumOfConsumedBytes := by
  refine ⟨fun s t bs hs h => ?_, fun s bs hs => ?_, fun c => State.consumed_nil⟩
  · obtain ⟨hcfg, ⟨hin, rfl⟩ | ⟨rest, hin, rfl⟩ | ⟨w, f, rest, i, hin, hdec, hexec⟩ |
      ⟨w, f, rest, e, hin, hdec, rfl⟩⟩ := step_next_cases h
    · rwa [State.consumedAfter_of_idle bs hin]
    · rw [State.consumedAfter_of_reset bs hin]
      exact State.consumed_nil
    · exact hs.of_exec hcfg hin hdec hexec
    · rw [State.consumedAfter_of_illegal bs hin hdec]
      exact hs.of_same rfl rfl rfl
  · rw [s.done_iff, hs.2]

end Sys2Proof.Machine
end

section
/-! PROOFS. The two fixed entries of TABLE (R82), and the flipped bit that the checksum detects (R88). -/

namespace Sys2Proof.Machine

/-- Settles O31: index 0 meets no 1 bit; the one bit of index 0x80 is at the low end in the eighth round, which leaves
the polynomial alone. -/
theorem tableFixedEntries : Obligations.TableFixedEntries := by
  refine fun p => ⟨table_zero p, ?_⟩
  calc table p 0x80#8
      = shiftRound p (shiftRounds p 7 0x0080#16) := rfl
    _ = shiftRound p 0x0001#16 := by rw [shiftRounds_of_low_zero p (by decide)]; rfl
    _ = p := BitVec.zero_xor

/-- A polynomial whose top bit is set shows in every round that takes it in, so only 0 becomes 0. -/
theorem eq_zero_of_shiftRound {p d : Half} (hp : p.getLsbD 15 = true) (h : shiftRound p d = 0#16) : d = 0#16 := by
  unfold shiftRound at h
  split at h
  · have top : ((d >>> 1) ^^^ p).getLsbD 15 = false := by rw [h]; rfl
    rw [BitVec.getLsbD_xor, hp, BitVec.getLsbD_ushiftRight, BitVec.getLsbD_of_ge d _ (by omega)] at top
    exact absurd top (by decide)
  · next low =>
      apply BitVec.eq_of_getLsbD_eq
      intro j hj
      cases j with
      | zero => simpa using low
      | succ j =>
        have := congrArg (·.getLsbD j) h
        simpa [Nat.add_comm 1 j] using this

/-- Rounds of such a polynomial lose nothing: different values stay different. -/
theorem shiftRounds_injective {p : Half} (hp : p.getLsbD 15 = true) (n : Nat) : Function.Injective (shiftRounds p n) := by
  have eq_zero : ∀ (n : Nat) (d : Half), shiftRounds p n d = 0#16 → d = 0#16 := by
    intro n
    induction n with
    | zero => exact fun _ h => h
    | succ n ih => exact fun _ h => eq_zero_of_shiftRound hp (ih _ h)
  intro c d h
  refine BitVec.xor_eq_zero_iff.mp (eq_zero n _ ?_)
  rw [shiftRounds_xor, h, BitVec.xor_self]

/-- A step of such a polynomial keeps different CRC values different, whatever the byte. -/
theorem crcStep_injective {p : Half} (hp : p.getLsbD 15 = true) (b : Byte) : Function.Injective (crcStep p · b) := by
  intro c d h
  simp only [crcStep_eq_crcStepSerial, crcStepSerial] at h
  exact (BitVec.xor_left_inj _).mp (shiftRounds_injective hp 8 h)

/-- So do the steps over any bytes. -/
theorem crcFold_injective {p : Half} (hp : p.getLsbD 15 = true) (bs : List Byte) :
    Function.Injective (crcFold p · bs) := by
  induction bs with
  | nil => exact fun _ _ h => h
  | cons b bs ih => exact fun _ _ h => crcStep_injective hp b (ih h)

/-- And different bytes give different CRC values from the same one. -/
theorem crcStep_byte_injective {p : Half} (hp : p.getLsbD 15 = true) (c : Half) : Function.Injective (crcStep p c) := by
  intro a b h
  rw [crcStep_eq_crcStepSerial, crcStep_eq_crcStepSerial] at h
  have wide : a.setWidth 16 = b.setWidth 16 := (BitVec.xor_right_inj _).mp (shiftRounds_injective hp 8 h)
  simpa [BitVec.setWidth_setWidth_of_le] using congrArg (BitVec.setWidth 8) wide

/-- A byte with one of its bits flipped is another byte. -/
theorem byte_xor_bit_ne (b : Byte) {k : Nat} (hk : k < 8) : b ^^^ (1#8 <<< k) ≠ b := by
  intro h
  have := congrArg (·.getLsbD k) h
  simp [hk] at this

/-- Settles O36: both polynomials have the top bit set, so the step at the flipped byte gives another CRC, and the steps
after it keep the two apart. -/
theorem singleBitFlipChangesChecksum : Obligations.SingleBitFlipChangesChecksum := by
  intro c hpoly before after b k hk h
  have hp : c.polyR.getLsbD 15 = true := by
    obtain hp | hp := hpoly <;> rw [hp] <;> rfl
  simp only [crc16, crcFold_append, crcFold_cons] at h
  exact byte_xor_bit_ne b hk (crcStep_byte_injective hp _ (crcFold_injective hp after h))

end Sys2Proof.Machine
end

section
/-! PROOFS. The bytes that FEEDs cover (R87), and the one EXPECT that is accepted for them (R102). -/

namespace Sys2Proof.Machine

/-- `t` is what FEEDs of the bytes `bs` make of `s`, a state with no byte consumed yet. -/
structure State.FedFrom (t s : State) (bs : List Byte) : Prop where
  cfg : t.cfg = s.cfg
  crc : t.crc = crc16 s.cfg (bs.take s.cfg.crcLen)
  count : t.count.toNat = min bs.length s.cfg.crcLen
  overrun : t.overrun = decide (s.cfg.crcLen < bs.length)
  verdict : t.verdict = .noVerdict
  err : t.err = s.err
  expect : t.expect = s.expect
  responses : t.responses.length = s.responses.length + bs.length

/-- A state right after INIT or reset is what no FEED makes of it. -/
theorem State.fedFrom_self {s : State} (crc : s.crc = s.cfg.crcInit) (count : s.count = 0#9)
    (overrun : s.overrun = false) (verdict : s.verdict = .noVerdict) : s.FedFrom s [] where
  cfg := rfl
  crc := by rw [crc, List.take_nil]; rfl
  count := by rw [count, List.length_nil, Nat.zero_min]; rfl
  overrun := by rw [overrun]; rfl
  verdict := verdict
  err := rfl
  expect := rfl
  responses := rfl

/-- One more FEED: its byte is consumed among the first CRC_LEN, and discarded with OVERRUN set after them. -/
theorem State.FedFrom.feed {s t : State} {bs : List Byte} (ht : t.FedFrom s bs) (hcfg : s.cfg.Admitted) (b : Byte) :
    ∃ u, exec (.feed b) t = .next u ∧ u.FedFrom s (bs ++ [b]) := by
  have hcount := ht.count
  rcases Nat.lt_or_ge bs.length s.cfg.crcLen with hroom | hfull
  · have hlt : t.count.toNat < t.cfg.crcLen := by rw [ht.cfg]; omega
    refine ⟨_, exec_feed_of_lt b hlt, ht.cfg, ?_, ?_, ?_, rfl, ht.err, ht.expect, ?_⟩
    · show crcStep t.cfg.polyR t.crc b = _
      rw [ht.cfg, ht.crc, List.take_of_length_le (by omega), List.take_of_length_le (by simp; omega),
        crc16_append_singleton]
    · show (t.count + 1#9).toNat = _
      rw [State.count_succ (ht.cfg ▸ hcfg) hlt, List.length_append, List.length_singleton]
      omega
    · show t.overrun = _
      rw [ht.overrun, List.length_append, List.length_singleton, decide_eq_decide]
      omega
    · simp [ht.responses, Nat.add_assoc]
  · have hge : t.cfg.crcLen ≤ t.count.toNat := by rw [ht.cfg]; omega
    refine ⟨_, exec_feed_of_full b hge, ht.cfg, ?_, ?_, ?_, ht.verdict, ht.err, ht.expect, ?_⟩
    · rw [List.take_append_of_le_length hfull]
      exact ht.crc
    · show t.count.toNat = _
      rw [List.length_append, List.length_singleton]
      omega
    · show true = _
      rw [List.length_append, List.length_singleton, eq_comm, decide_eq_true_eq]
      omega
    · simp [ht.responses, Nat.add_assoc]

/-- FEEDs one after another. -/
theorem State.FedFrom.feeds {s t : State} {cs bs : List Byte} (ht : t.FedFrom s cs) (hcfg : s.cfg.Admitted) :
    ∃ u, execAll (bs.map .feed) t = .next u ∧ u.FedFrom s (cs ++ bs) := by
  induction bs generalizing t cs with
  | nil => exact ⟨t, rfl, by rwa [List.append_nil]⟩
  | cons b bs ih =>
    obtain ⟨u, hexec, hu⟩ := ht.feed hcfg b
    obtain ⟨v, hrun, hv⟩ := ih hu
    exact ⟨v, (execAll_cons hexec).trans hrun, by rwa [List.append_cons]⟩

/-- Settles O37: INIT's state and the reset state have no byte consumed, and the FEEDs start from there. -/
theorem feedsCoverExactlyFirst350Bytes : Obligations.FeedsCoverExactlyFirst350Bytes := by
  refine ⟨rfl, fun s bs hcfg => ?_, fun c bs hcfg => ?_⟩
  · obtain ⟨t, hrun, ht⟩ :=
      (State.fedFrom_self (s := s.startChecksum.respondStatus) rfl rfl rfl rfl).feeds (bs := bs) hcfg
    refine ⟨t, (execAll_cons rfl).trans hrun, ht.crc, ht.count, ht.overrun, ht.verdict, ht.err, ht.expect, ?_⟩
    simpa [Nat.add_right_comm] using ht.responses
  · obtain ⟨t, hrun, ht⟩ := (State.fedFrom_self (s := State.resetWith c) rfl rfl rfl rfl).feeds (bs := bs) hcfg
    exact ⟨t, hrun, ht.crc, ht.count, ht.overrun⟩

/-! ### The one EXPECT that is accepted -/

/-- LOADEXP and CHECK at CRC_LEN compare CRC with the value loaded. -/
theorem execAll_loadexp_check {s : State} (hfull : s.count.toNat = s.cfg.crcLen) (v : Half) :
    execAll [.loadexp v, .check] s = .next (s.loadExpected v).respondStatus.judge.respondStatus :=
  (execAll_cons rfl).trans (execAll_cons (exec_check_of_full hfull))

/-- Settles O38: the value accepted is the CRC held. -/
theorem exactlyOneExpectIsAccepted : Obligations.ExactlyOneExpectIsAccepted := by
  intro s hfull
  refine ⟨s.crc, fun v => ?_⟩
  simp only [execAll_loadexp_check hfull, Host.Outcome.next.injEq, exists_eq_left']
  exact (compareVerdict_eq_accepted s.crc v).trans eq_comm

end Sys2Proof.Machine
end

section
/-! PROOFS. The reads of the frame: their order (R12, R42), what VALIDATE depends on (R41, R124), and the round trip of
the stored checksum (R123). -/

namespace Sys2Proof.Machine

/-- `MemRead(a, 1) = F[a]` (R12). -/
theorem Frame.memRead_one {f : Frame} {a : Nat} {b : Byte} (h : f.byte? a = some b) : f.memRead a 1 = some b := by
  have hread : f.bytes? a 1 = some [b] := by simp [Frame.bytes?, h]
  rw [Frame.memRead, hread]
  exact congrArg some (BitVec.ofNat_toNat 8 b)

/-- Bytes past the end of the frame are not read (log entry 6). -/
theorem Frame.bytes?_of_lt {f : Frame} {a n : Nat} (hpast : f.length < a + (n + 1)) : f.bytes? a (n + 1) = none := by
  by_contra hsome
  obtain ⟨bs, hbs⟩ := Option.ne_none_iff_exists'.mp hsome
  obtain ⟨hlen, hget⟩ := Frame.bytes?_spec hbs
  have last : (f.byte? (a + n)).isSome := by
    rw [← hget n (by omega), List.getElem?_eq_getElem (by omega), Option.isSome_some]
  have := (f.byte?_isSome _).mp last
  omega

/-- Settles O39: the reads of one and of two bytes, and the read past the end. -/
theorem memReadIsLittleEndian : Obligations.MemReadIsLittleEndian := by
  refine fun f a => ⟨fun _ => Frame.memRead_one, fun _ _ => Frame.memRead_two, fun hpast => ?_⟩
  rw [Frame.memRead, Frame.bytes?_of_lt hpast]; rfl

/-- Settles O40: on a short frame both states end with INIT's writes and TRUNCATED; on any other, with what the same
bytes give after INIT's writes, which leave nothing of the state before but EXPECT. -/
theorem validateDependsOnReadBytesOnly : Obligations.ValidateDependsOnReadBytesOnly := by
  intro s s' hcfg hadm hgates hreads
  rcases Nat.lt_or_ge s.framePort.length s.cfg.headerFixedSize with hshort | hlong
  · have hshort' : s'.framePort.length < s'.cfg.headerFixedSize := hcfg ▸ hgates.mp hshort
    have hsame : s.startChecksum.markTruncated.SameRegisters
        { s'.startChecksum.markTruncated with expect := s.expect } :=
      ⟨congrArg Config.crcInit hcfg, rfl, rfl, rfl, rfl, rfl⟩
    exact ⟨_, _, exec_validate_of_short hshort, exec_validate_of_short hshort', hsame, hsame.statusWord_eq hcfg,
      fun hlong => absurd hshort (Nat.not_lt.mpr hlong)⟩
  · obtain ⟨hcovered, hlo, hhi⟩ := hreads hlong
    obtain ⟨covered, lo, hi, hlen, hget, hgetlo, hgethi⟩ := Frame.exists_bytes_of_admitted hadm hlong
    have hexec' : exec .validate s' = .next (s'.startChecksum.loadFrame covered (hi ++ lo)).respondStatus := by
      have hlong' : s.cfg.headerFixedSize ≤ s'.framePort.length :=
        Nat.not_lt.mp fun hlt => absurd (hgates.mpr hlt) (Nat.not_lt.mpr hlong)
      rw [hcfg] at hlong' hlen hget hcovered hlo hhi hgetlo hgethi
      exact exec_validate_of_bytes hlong' hlen (fun j hj => (hget j hj).trans (hcovered j hj)) (hlo ▸ hgetlo)
        (hhi ▸ hgethi)
    have hcrc : crc16 s.cfg covered = crc16 s'.cfg covered := by rw [hcfg]
    have hsame : (s.startChecksum.loadFrame covered (hi ++ lo)).SameRegisters
        (s'.startChecksum.loadFrame covered (hi ++ lo)) :=
      ⟨hcrc, rfl, congrArg Config.fullCount hcfg, rfl, congrArg (compareVerdict · (hi ++ lo)) hcrc, rfl⟩
    exact ⟨_, _, exec_validate_of_bytes hlong hlen hget hgetlo hgethi, hexec', hsame, hsame.statusWord_eq hcfg,
      fun _ => rfl⟩

/-- A halfword is its high byte above its low byte. -/
theorem half_bytes_append (v : Half) : v.extractLsb' 8 8 ++ v.extractLsb' 0 8 = v := by
  apply BitVec.eq_of_getLsbD_eq
  intro j hj
  rw [BitVec.getLsbD_append]
  rcases Nat.lt_or_ge j 8 with hlow | hhigh
  · simp [hlow]
  · simp [show ¬ j < 8 by omega, show j - 8 < 8 by omega, show 8 + (j - 8) = j by omega]

/-- Settles O43: the two bytes stored lie past the covered ones, so the covered bytes are the first CRC_LEN of the
list, and the stored checksum read back is theirs. -/
theorem storedChecksumIsAccepted : Obligations.StoredChecksumIsAccepted := by
  intro s bs hcfg hgate hframe
  have hcrcLen := hcfg.crcLen_le
  have hoffset := hcfg.crcOffset_le
  generalize hv : crc16 s.cfg (bs.take s.cfg.crcLen) = v at hframe ⊢
  have hbyte : ∀ a, s.framePort.byte? a = _ := fun a => hframe ▸ Frame.byte?_ofBytes _ a
  have hlong : s.cfg.headerFixedSize ≤ s.framePort.length := by
    rw [hframe]
    simpa [Frame.ofBytes] using hgate
  have hlen : (bs.take s.cfg.crcLen).length = s.cfg.crcLen := List.length_take_of_le (by omega)
  have hget : ∀ j < s.cfg.crcLen, (bs.take s.cfg.crcLen)[j]? = s.framePort.byte? j := fun j hj => by
    rw [hbyte, List.getElem?_set_ne (by omega), List.getElem?_set_ne (by omega), List.getElem?_take_of_lt hj]
  have hlo : s.framePort.byte? s.cfg.crcOffset = some (v.extractLsb' 0 8) := by
    rw [hbyte, List.getElem?_set_ne (by omega), List.getElem?_set_self (by omega)]
  have hhi : s.framePort.byte? (s.cfg.crcOffset + 1) = some (v.extractLsb' 8 8) := by
    rw [hbyte, List.getElem?_set_self (by rw [List.length_set]; omega)]
  have hexec := exec_validate_of_bytes hlong hlen hget hlo hhi
  rw [half_bytes_append] at hexec
  exact ⟨_, hexec, (compareVerdict_eq_accepted ..).mpr hv, hv⟩

end Sys2Proof.Machine
end
